-- ==== Sys2Proof/Word.lean ====
section
/-! DEFINITION. The widths the WZ4316's port and tables work in, and the two index types of its tables. -/

namespace Sys2Proof

/-- A byte on the SPI port (R189). -/
abbrev Byte := BitVec 8

/-- A two-byte value: samples, levels, leases, periods, handles and tags as the port carries them
(R196, R197). -/
abbrev Word := BitVec 16

/-- A slot of the watch table, 0 to 63 (R1). -/
abbrev SlotId := Fin 64

/-- A channel, 0 to 14 (R130). -/
abbrev ChannelId := Fin 15

end Sys2Proof
end

