-- ==== Sys2Proof/Syntax.lean ====
section
/-! DEFINITION. The commands of the block: one constructor for each row of spec/opcode_table.json,
with the operands of the request table (R196) or of the event's own rule. -/

namespace Sys2Proof

/-- The two edge inputs: EDG0 is channel 12 and EDG1 is channel 13 (R130). -/
inductive EdgeInput where
  | edg0
  | edg1
deriving DecidableEq, Repr

/-- What brings a device reset (R185, R200): the supply rises into its working range, the supply falls
below 2.7 V, or RSTn falls. -/
inductive ResetCause where
  | powerOn
  | supplyFall
  | rstnFall
deriving DecidableEq, Repr

/-- The commands. A request stands for the arrival of its last request byte in a frame (R189), with its
argument bytes as operands; an event stands for itself. `elapsed` is the time in whole microseconds since
the edge that started the measurement in progress on that input (R165); `result` is what the converter
makes (R157). -/
inductive Instr where
  -- requests on the compose buffer
  | composeClear
  | composeWrite (field : Byte) (value : Word)
  | composeRead (field : Byte)
  | load (handle : Word)
  -- requests on watches
  | create
  | amend (handle : Word)
  | retire (handle : Word)
  | renew (handle : Word)
  | suspend (handle : Word)
  | resume (handle : Word)
  | watchStatus (handle : Word)
  | resetTable
  -- tagged requests and the enumeration cursor
  | renewTagged (tag mask : Word)
  | suspendTagged (tag mask : Word)
  | resumeTagged (tag mask : Word)
  | retireTagged (tag mask : Word)
  | countTagged (tag mask : Word)
  | findFirst (tag mask : Word)
  | findNext
  -- requests on notices
  | noticePeek
  | noticeTake
  | notifySet (enable threshold : Byte)
  -- requests on channels
  | channelSet (channel enabled edgeMode polarity rate gate : Byte)
  | channelGet (channel : Byte)
  | channelRead (channel : Byte)
  -- requests on the sweep engine and the reference
  | planSet (mode single : Byte) (members priorities : Word) (trigger resolution : Byte)
  | planGet
  | start
  | stop
  | refOn
  | refOff
  -- requests on mode control and the time base
  | modeRequest (target : Byte)
  | summary
  | timebaseSet (period : Word)
  | timebaseGet
  -- the command port
  | unknownCode (code : Byte)
  | csnFall
  | csnRise
  | noticeTakeRemoval
  -- events of the measuring blocks
  | conversionCompletion (result : BitVec 12)
  | settleEvent
  | trigFallingEdge
  | activeEdge (input : EdgeInput) (elapsed : Nat)
  | oppositeEdge (input : EdgeInput) (elapsed : Nat)
  | overflow (input : EdgeInput)
  | stall (input : EdgeInput)
  -- events of time
  | intervalExpiry
  | leaseExpiry (slot : SlotId)
  | windowEnd (input : EdgeInput)
  -- events of mode control and of the whole device
  | modeChangeCarriedOut
  | deviceReset (cause : ResetCause)
  | rstnRise
  -- the command port, byte by byte
  | requestByteArrival (byte : Byte)
  | lastResultByteEnd
deriving DecidableEq, Repr

end Sys2Proof
end

