-- ==== Sys2Proof/Decode.lean ====
section
/-! DEFINITION. The request table of the command port (R196): which codes are listed, how many argument
and data bytes each has, the request bytes of each request command, and the request that bytes spell. No row of
spec/opcode_table.json gives bits, so `decodeTableWord` answers none for every word (log 15). -/

namespace Sys2Proof

/-- A two-byte value as it goes over the port, most significant byte first (R196). -/
def wordBytes (w : Word) : List Byte := [w.extractLsb' 8 8, w.extractLsb' 0 8]

/-- One row of the request table (R196): the code, and how many argument bytes and data bytes the
request has. -/
structure RequestRow where
  code : Byte
  arguments : Nat
  data : Nat
deriving DecidableEq, Repr

/-- The first part of the request table of R196: compose buffer and watches. -/
def requestTableWatches : List RequestRow :=
  [⟨0x11#8, 0, 0⟩, ⟨0x12#8, 3, 3⟩, ⟨0x13#8, 1, 3⟩, ⟨0x14#8, 2, 1⟩,
   ⟨0x21#8, 0, 3⟩, ⟨0x22#8, 2, 4⟩, ⟨0x23#8, 2, 1⟩, ⟨0x24#8, 2, 2⟩,
   ⟨0x25#8, 2, 1⟩, ⟨0x26#8, 2, 1⟩, ⟨0x27#8, 2, 13⟩, ⟨0x28#8, 0, 2⟩]

/-- The second part of the request table of R196: tagged requests, the cursor and notices. -/
def requestTableTagged : List RequestRow :=
  [⟨0x31#8, 4, 2⟩, ⟨0x32#8, 4, 1⟩, ⟨0x33#8, 4, 1⟩, ⟨0x34#8, 4, 1⟩,
   ⟨0x35#8, 4, 3⟩, ⟨0x36#8, 4, 5⟩, ⟨0x37#8, 0, 5⟩,
   ⟨0x41#8, 0, 9⟩, ⟨0x42#8, 0, 9⟩, ⟨0x43#8, 2, 2⟩]

/-- The third part of the request table of R196: channels, sweep, modes and time base. -/
def requestTableDevice : List RequestRow :=
  [⟨0x51#8, 6, 6⟩, ⟨0x52#8, 1, 6⟩, ⟨0x53#8, 1, 4⟩,
   ⟨0x61#8, 8, 1⟩, ⟨0x62#8, 0, 10⟩, ⟨0x63#8, 0, 1⟩, ⟨0x64#8, 0, 1⟩, ⟨0x65#8, 0, 1⟩, ⟨0x66#8, 0, 1⟩,
   ⟨0x71#8, 1, 2⟩, ⟨0x72#8, 0, 12⟩, ⟨0x73#8, 2, 4⟩, ⟨0x74#8, 0, 4⟩]

/-- The request table of R196, 35 requests. -/
def requestTable : List RequestRow := requestTableWatches ++ requestTableTagged ++ requestTableDevice

/-- The row of a code, or none for a code that is not listed (R193). -/
def requestRow (code : Byte) : Option RequestRow := requestTable.find? (fun r => r.code == code)

/-- How many request bytes a frame that begins with `code` has: the code and its arguments, and the code
alone when it is not listed (R189, R193). -/
def requestLength (code : Byte) : Nat :=
  match requestRow code with
  | some r => r.arguments + 1
  | none => 1

/-- The request bytes of a request command: its code and its argument bytes in the order of R196. A
command that is no request has none. -/
def Instr.requestBytes : Instr → List Byte
  | .composeClear => [0x11#8]
  | .composeWrite field value => 0x12#8 :: field :: wordBytes value
  | .composeRead field => [0x13#8, field]
  | .load handle => 0x14#8 :: wordBytes handle
  | .create => [0x21#8]
  | .amend handle => 0x22#8 :: wordBytes handle
  | .retire handle => 0x23#8 :: wordBytes handle
  | .renew handle => 0x24#8 :: wordBytes handle
  | .suspend handle => 0x25#8 :: wordBytes handle
  | .resume handle => 0x26#8 :: wordBytes handle
  | .watchStatus handle => 0x27#8 :: wordBytes handle
  | .resetTable => [0x28#8]
  | .renewTagged tag mask => 0x31#8 :: wordBytes tag ++ wordBytes mask
  | .suspendTagged tag mask => 0x32#8 :: wordBytes tag ++ wordBytes mask
  | .resumeTagged tag mask => 0x33#8 :: wordBytes tag ++ wordBytes mask
  | .retireTagged tag mask => 0x34#8 :: wordBytes tag ++ wordBytes mask
  | .countTagged tag mask => 0x35#8 :: wordBytes tag ++ wordBytes mask
  | .findFirst tag mask => 0x36#8 :: wordBytes tag ++ wordBytes mask
  | .findNext => [0x37#8]
  | .noticePeek => [0x41#8]
  | .noticeTake => [0x42#8]
  | .notifySet enable threshold => [0x43#8, enable, threshold]
  | .channelSet channel enabled edgeMode polarity rate gate =>
      [0x51#8, channel, enabled, edgeMode, polarity, rate, gate]
  | .channelGet channel => [0x52#8, channel]
  | .channelRead channel => [0x53#8, channel]
  | .planSet mode single members priorities trigger resolution =>
      0x61#8 :: mode :: single :: wordBytes members ++ wordBytes priorities ++ [trigger, resolution]
  | .planGet => [0x62#8]
  | .start => [0x63#8]
  | .stop => [0x64#8]
  | .refOn => [0x65#8]
  | .refOff => [0x66#8]
  | .modeRequest target => [0x71#8, target]
  | .summary => [0x72#8]
  | .timebaseSet period => 0x73#8 :: wordBytes period
  | .timebaseGet => [0x74#8]
  | .unknownCode code => [code]
  | .csnFall => []
  | .csnRise => []
  | .noticeTakeRemoval => []
  | .conversionCompletion _ => []
  | .settleEvent => []
  | .trigFallingEdge => []
  | .activeEdge _ _ => []
  | .oppositeEdge _ _ => []
  | .overflow _ => []
  | .stall _ => []
  | .intervalExpiry => []
  | .leaseExpiry _ => []
  | .windowEnd _ => []
  | .modeChangeCarriedOut => []
  | .deviceReset _ => []
  | .rstnRise => []
  | .requestByteArrival _ => []
  | .lastResultByteEnd => []

/-- The two-byte value that two bytes carry, most significant byte first (R196). -/
def byteWord (high low : Byte) : Word := high ++ low

/-- The requests that the request table gives these argument bytes to, each under its code (R196). -/
def requestsWith : List Byte → List (Byte × Instr)
  | [] =>
    [(0x11#8, .composeClear), (0x21#8, .create), (0x28#8, .resetTable), (0x37#8, .findNext), (0x41#8, .noticePeek),
     (0x42#8, .noticeTake), (0x62#8, .planGet), (0x63#8, .start), (0x64#8, .stop), (0x65#8, .refOn), (0x66#8, .refOff),
     (0x72#8, .summary), (0x74#8, .timebaseGet)]
  | [a] => [(0x13#8, .composeRead a), (0x52#8, .channelGet a), (0x53#8, .channelRead a), (0x71#8, .modeRequest a)]
  | [a, b] =>
    let w := byteWord a b
    [(0x14#8, .load w), (0x22#8, .amend w), (0x23#8, .retire w), (0x24#8, .renew w), (0x25#8, .suspend w), (0x26#8, .resume w),
     (0x27#8, .watchStatus w), (0x43#8, .notifySet a b), (0x73#8, .timebaseSet w)]
  | [a, b, c] => [(0x12#8, .composeWrite a (byteWord b c))]
  | [a, b, c, d] =>
    let tag := byteWord a b
    let mask := byteWord c d
    [(0x31#8, .renewTagged tag mask), (0x32#8, .suspendTagged tag mask), (0x33#8, .resumeTagged tag mask),
     (0x34#8, .retireTagged tag mask), (0x35#8, .countTagged tag mask), (0x36#8, .findFirst tag mask)]
  | [a, b, c, d, e, f] => [(0x51#8, .channelSet a b c d e f)]
  | [a, b, c, d, e, f, g, h] => [(0x61#8, .planSet a b (byteWord c d) (byteWord e f) g h)]
  | _ => []

/-- The request that request bytes spell, the code first: a listed code with all its argument bytes (R196), or a code that is
not listed, alone (R193). Other bytes spell none. -/
def requestOf : List Byte → Option Instr
  | [] => none
  | code :: arguments =>
    if (requestRow code).isSome then (requestsWith arguments).lookup code
    else if arguments = [] then some (.unknownCode code) else none

/-- The command a word spells by the bits of spec/opcode_table.json. The table gives no row any bits, so
no word spells a command (log 15). -/
def decodeTableWord (_nbits _w : Nat) : Option Instr := none

end Sys2Proof
end

