-- ==== Sys2Proof/Config.lean ====
section
/-! DEFINITION. The constants the device fixes. The spec leaves no value open that a command stores,
so there is no free value here (log 16). -/

namespace Sys2Proof.Config

/-- The channel maximum of ANALOG and SUPPLY channels (R95, R130). -/
def converterMax : Nat := 4095

/-- The channel maximum of EDGE channels (R95, R130). -/
def edgeMax : Nat := 65535

/-- The value a faulted sample and a FAULT notice carry (R44, R139, R165). -/
def faultedValue : Word := 65535#16

/-- The periods of the measure rate after which a WIDTH or PERIOD measurement has run out of range (R165). -/
def rangePeriods : Nat := 65536

/-- The working range of the supply, 2.7 to 5.5 V, in counts of channel 14 (R143, R200). -/
def supplyMin : Nat := 1350

/-- The upper end of the working range in counts of channel 14 (R143, R200). -/
def supplyMax : Nat := 2750

/-- The two-byte value "no handle" (R15, R197). -/
def noHandle : Word := 65535#16

/-- The period of the time base after device reset, in milliseconds (R72). -/
def resetPeriod : Word := 1000#16

/-- The largest owner tag and tag mask (R115, R125). -/
def tagMax : Nat := 2047

/-- The largest handle (R15, R17). -/
def handleMax : Nat := 1023

end Sys2Proof.Config
end

