-- ==== Sys2Proof/Machine/State.lean ====
section
/-! DEFINITION. The state of the WZ4316 as plain data, block by block, and its value after device reset
(R185). -/

namespace Sys2Proof.Machine

/-! ## Watch table -/

/-- The kind of a watch (R3). -/
inductive WatchKind where
  | above
  | below
  | outside
  | inside
  | delta
deriving DecidableEq, Repr

/-- The state of a live watch (R12). A FREE slot holds no watch. -/
inductive WatchState where
  | arming
  | quiet
  | qualifying
  | tripped
  | suspended
  | expired
deriving DecidableEq, Repr

/-- The kind of a notice (R10). -/
inductive NoticeKind where
  | trip
  | clear
  | step
  | fault
  | expiry
deriving DecidableEq, Repr

/-- A pending notice (R10). -/
structure Notice where
  kind : NoticeKind
  value : Word
  coalesced : Bool
deriving DecidableEq, Repr

/-- Settings fields 0 to 9 of a watch (R3); level B is absent outside the band kinds (R4). -/
structure Settings where
  owner : BitVec 11
  channel : ChannelId
  kind : WatchKind
  levelA : Word
  levelB : Option Word
  hysteresis : BitVec 10
  dwell : Nat
  step : Word
  priority : Fin 8
  lease : Word
deriving DecidableEq, Repr

/-- A live watch: its settings (R3) and its live fields (R6). -/
structure Watch where
  settings : Settings
  state : WatchState
  dwellCount : Nat
  leaseRemaining : Word
  lastValue : Option Word
  reference : Option Word
  faultMark : Bool
  notice : Option Notice
deriving DecidableEq, Repr

/-- A slot of the watch table (R1): `watch` is none while the slot is FREE. -/
structure Slot where
  generation : BitVec 4
  watch : Option Watch
deriving DecidableEq, Repr

/-! ## Notify setting and compose buffer -/

/-- The notify setting (R66). -/
structure NotifySetting where
  enable : Bool
  threshold : Fin 8
deriving DecidableEq, Repr

/-- The compose buffer, fields 0 to 10 (R90). -/
structure ComposeBuffer where
  owner : BitVec 11
  channel : ChannelId
  kind : WatchKind
  levelA : Word
  levelB : Word
  hysteresis : BitVec 10
  dwell : Nat
  step : Word
  priority : Fin 8
  lease : Word
  startSuspended : Bool
deriving DecidableEq, Repr

/-- The compose defaults (R3, R90). -/
def ComposeBuffer.defaults : ComposeBuffer :=
  { owner := 0#11, channel := 0, kind := .above, levelA := 0#16, levelB := 0#16, hysteresis := 0#10,
    dwell := 1, step := 1#16, priority := 0, lease := 0#16, startSuspended := false }

/-! ## Time base -/

/-- The time base (R72). `countdown` is none while the countdown is stopped, and the interval it was
loaded with, in milliseconds, while it runs (log 5). -/
structure TimeBase where
  periodSetting : Word
  periodInEffect : Word
  countdown : Option Word
deriving DecidableEq, Repr

/-! ## Channel table -/

/-- The kind of a channel, fixed by its number (R130). -/
inductive ChannelKind where
  | analog
  | edge
  | supply
deriving DecidableEq, Repr

/-- What an edge channel measures (R131). -/
inductive EdgeMode where
  | width
  | period
  | count
deriving DecidableEq, Repr

/-- Which edge is the active edge (R131). -/
inductive Polarity where
  | rising
  | falling
deriving DecidableEq, Repr

/-- The time one count stands for (R131). -/
inductive MeasureRate where
  | us1
  | us8
  | us64
  | us512
deriving DecidableEq, Repr

/-- The settings that entries 12 and 13 have beside the enabled flag (R131). -/
structure EdgeSettings where
  mode : EdgeMode
  polarity : Polarity
  rate : MeasureRate
  gate : Byte
deriving DecidableEq, Repr

/-- One entry of the channel table (R131). -/
structure ChannelEntry where
  enabled : Bool
  latest : Word
  sequence : Byte
  fresh : Bool
  faultMark : Bool
deriving DecidableEq, Repr

/-- One thing for each edge input. -/
structure PerEdge (α : Type) where
  edg0 : α
  edg1 : α
deriving DecidableEq, Repr

/-! ## Sweep engine and reference -/

/-- The mode of a sweep plan (R145). -/
inductive PlanMode where
  | one
  | pass
  | loop
  | priorityLoop
deriving DecidableEq, Repr

/-- What starts a run (R144). -/
inductive Trigger where
  | command
  | pin
deriving DecidableEq, Repr

/-- The resolution of a conversion (R157). -/
inductive Resolution where
  | full
  | fast
deriving DecidableEq, Repr

/-- The sweep plan (R144). Bit c of a set marks channel c. -/
structure SweepPlan where
  mode : PlanMode
  single : ChannelId
  members : BitVec 15
  priorities : BitVec 15
  trigger : Trigger
  resolution : Resolution
  accepted : Bool
deriving DecidableEq, Repr

/-- The state of the sweep engine (R152). CONVERTING holds the one conversion in flight. -/
inductive EngineState where
  | idle
  | armed
  | waitRef
  | converting
deriving DecidableEq, Repr

/-- The state of the reference (R149). SETTLING holds the awaited settle event (R150). -/
inductive ReferenceState where
  | off
  | settling
  | ready
deriving DecidableEq, Repr

/-! ## Edge timing unit -/

/-- The measurement state of an edge channel (R163). -/
inductive MeasureState where
  | idle
  | waiting
  | measuring
deriving DecidableEq, Repr

/-- The measurement record of an edge channel (R163), and the sample of a COUNT window that a tick has
ended and that has not yet arrived at the channel table (R78, R172; log 9). -/
structure EdgeRecord where
  state : MeasureState
  count : Word
  gateCountdown : Byte
  windowDue : Option Word
deriving DecidableEq, Repr

/-! ## Mode control -/

/-- The operating mode (R177). -/
inductive Mode where
  | config
  | run
  | hold
deriving DecidableEq, Repr

/-- The target of a pending mode change: CONFIG or HOLD, never RUN (R177). -/
inductive PendingTarget where
  | config
  | hold
deriving DecidableEq, Repr

/-! ## Command port -/

/-- The phase of the frame (R191). IDLE is CSn high; in every other phase CSn is low. -/
inductive Phase where
  | idle
  | receiving
  | answering
  | trailing
  | held
deriving DecidableEq, Repr

/-- What the port puts on MISO (R190, R191, R194): nothing while CSn is high, the summary byte fixed for
the byte being shifted, the result bytes fixed when the request was taken, or 0. -/
inductive Miso where
  | released
  | summary (byte : Byte)
  | result (bytes : List Byte)
  | zero
deriving DecidableEq, Repr

/-- The take claim (R61). -/
structure TakeClaim where
  slot : SlotId
  generation : BitVec 4
deriving DecidableEq, Repr

/-- The slot position of the enumeration cursor (R124): −1, the slot last reported, or 64. -/
inductive WalkPosition where
  | beforeFirst
  | reported (slot : SlotId)
  | ended
deriving DecidableEq, Repr

/-- A search held by the enumeration cursor (R124). -/
structure Search where
  tag : BitVec 11
  mask : BitVec 11
  position : WalkPosition
deriving DecidableEq, Repr

/-- The command port (R189, R191): the frame's phase, the request bytes received (code first), what MISO
carries, the take claim (R61) and the enumeration cursor (R124; none is "no search"). -/
structure Port where
  phase : Phase
  received : List Byte
  miso : Miso
  claim : Option TakeClaim
  cursor : Option Search
deriving DecidableEq, Repr

/-! ## The whole device -/

/-- The state of the block. `joined` holds the slots of the pending list in order of joining (R50); the
list itself is computed from it (R55, log 10). `rstnLow` and `supplyLow` say what holds the device at its
reset values (R185, R200). `pending` is the queue of commands waiting, first in first out (log 1). -/
structure State where
  slots : Vector Slot 64
  joined : List SlotId
  notify : NotifySetting
  compose : ComposeBuffer
  timeBase : TimeBase
  channels : Vector ChannelEntry 15
  edgeSettings : PerEdge EdgeSettings
  plan : SweepPlan
  engine : EngineState
  position : Nat
  triggerOverrun : Bool
  reference : ReferenceState
  edges : PerEdge EdgeRecord
  mode : Mode
  requested : Option PendingTarget
  port : Port
  rstnLow : Bool
  supplyLow : Bool
  pending : List Instr
deriving DecidableEq, Repr

/-- The block never faults: the spec names no event that stops it (log 16). -/
inductive Fault where
deriving DecidableEq, Repr

/-- The reasons a command has no meaning. -/
inductive Refusal where
  /-- Raised by Machine/Dispatch.lean alone, for a command whose meaning is not written; safe. No command
  of this model answers with it. -/
  | notModelled (mnemonic : String)
deriving DecidableEq, Repr

/-- A FREE slot after device reset (R19). -/
def Slot.atReset : Slot := { generation := 0#4, watch := none }

/-- A channel entry after device reset (R131). -/
def ChannelEntry.atReset : ChannelEntry :=
  { enabled := false, latest := 0#16, sequence := 0#8, fresh := false, faultMark := false }

/-- The edge settings after device reset (R131, R175). -/
def EdgeSettings.atReset : EdgeSettings := { mode := .width, polarity := .rising, rate := .us1, gate := 1#8 }

/-- A measurement record after device reset (R163, R175). -/
def EdgeRecord.atReset : EdgeRecord := { state := .idle, count := 0#16, gateCountdown := 0#8, windowDue := none }

/-- The sweep plan after device reset (R144). -/
def SweepPlan.atReset : SweepPlan :=
  { mode := .one, single := 0, members := 0#15, priorities := 0#15, trigger := .command,
    resolution := .full, accepted := false }

/-- The machine right after device reset (R185), with CSn and RSTn high and the supply in its working
range (log 11). -/
def State.reset : State :=
  { slots := Vector.replicate 64 Slot.atReset
    joined := []
    notify := { enable := false, threshold := 0 }
    compose := ComposeBuffer.defaults
    timeBase := { periodSetting := Config.resetPeriod, periodInEffect := Config.resetPeriod, countdown := none }
    channels := Vector.replicate 15 ChannelEntry.atReset
    edgeSettings := { edg0 := EdgeSettings.atReset, edg1 := EdgeSettings.atReset }
    plan := SweepPlan.atReset
    engine := .idle
    position := 0
    triggerOverrun := false
    reference := .off
    edges := { edg0 := EdgeRecord.atReset, edg1 := EdgeRecord.atReset }
    mode := .config
    requested := none
    port := { phase := .idle, received := [], miso := .released, claim := none, cursor := none }
    rstnLow := false
    supplyLow := false
    pending := [] }

end Sys2Proof.Machine
end

