-- ==== Sys2Proof/Machine/Operands.lean ====
section
/-! DEFINITION. The codes and forms in which the port carries operands and results (R90, R134, R137, R146,
R177, R195, R197): every reader from a code and every writer to one. -/

namespace Sys2Proof.Machine

/-! ## Reading operands -/

/-- A channel number, 0 to 14 (R130). -/
def channelOf (n : Nat) : Option ChannelId :=
  if h : n < 15 then some ⟨n, h⟩ else none

/-- A priority or a notify threshold, 0 to 7 (R3, R66). -/
def priorityOf (n : Nat) : Option (Fin 8) :=
  if h : n < 8 then some ⟨n, h⟩ else none

/-- A two-valued field: no, off or clear is 0, and yes, on or set is 1 (R90, R134, R197). -/
def flagOf : Nat → Option Bool
  | 0 => some false
  | 1 => some true
  | _ => none

/-- A watch kind (R90). -/
def watchKindOf : Nat → Option WatchKind
  | 0 => some .above
  | 1 => some .below
  | 2 => some .outside
  | 3 => some .inside
  | 4 => some .delta
  | _ => none

/-- An edge mode (R134). -/
def edgeModeOf : Nat → Option EdgeMode
  | 0 => some .width
  | 1 => some .period
  | 2 => some .count
  | _ => none

/-- A polarity (R134). -/
def polarityOf : Nat → Option Polarity
  | 0 => some .rising
  | 1 => some .falling
  | _ => none

/-- A measure rate (R134). -/
def measureRateOf : Nat → Option MeasureRate
  | 0 => some .us1
  | 1 => some .us8
  | 2 => some .us64
  | 3 => some .us512
  | _ => none

/-- The four edge arguments of CHANNEL-SET, or none when one of them is outside its codes; the COUNT gate is
1 to 255 (R134). -/
def edgeSettingsOf (edgeMode polarity rate gate : Byte) : Option EdgeSettings :=
  match edgeModeOf edgeMode.toNat, polarityOf polarity.toNat, measureRateOf rate.toNat with
  | some m, some p, some r =>
    if gate = 0#8 then none else some { mode := m, polarity := p, rate := r, gate := gate }
  | _, _, _ => none

/-- A plan mode (R146). -/
def planModeOf : Nat → Option PlanMode
  | 0 => some .one
  | 1 => some .pass
  | 2 => some .loop
  | 3 => some .priorityLoop
  | _ => none

/-- A trigger setting (R146). -/
def triggerOf : Nat → Option Trigger
  | 0 => some .command
  | 1 => some .pin
  | _ => none

/-- A resolution (R146). -/
def resolutionOf : Nat → Option Resolution
  | 0 => some .full
  | 1 => some .fast
  | _ => none

/-- A channel set of two bytes, one bit a channel; a set that marks channel 15 is refused (R146, R197). -/
def channelSetOf (w : Word) : Option (BitVec 15) :=
  if w.getLsbD 15 then none else some (w.setWidth 15)

/-- A target mode (R177). -/
def modeOf : Nat → Option Mode
  | 0 => some .config
  | 1 => some .run
  | 2 => some .hold
  | _ => none

/-- A tag or a mask, 0 to 2047 (R115). -/
def tagOf (w : Word) : Option (BitVec 11) :=
  if w.toNat ≤ Config.tagMax then some (w.setWidth 11) else none

/-! ## Handles -/

/-- A handle: generation × 64 + slot (R15). -/
def makeHandle (generation : BitVec 4) (slot : SlotId) : Word :=
  BitVec.ofNat 16 (generation.toNat * 64 + slot.val)

/-- The slot a handle names (R15, R197). -/
def handleSlot (handle : Word) : SlotId := ⟨handle.toNat % 64, Nat.mod_lt _ (by decide)⟩

/-- The generation a handle names (R15, R197). -/
def handleGeneration (handle : Word) : BitVec 4 := BitVec.ofNat 4 (handle.toNat / 64)

/-! ## Writing results -/

/-- The outcome codes (R195). -/
inductive OutcomeCode where
  | ok
  | accepted
  | empty
  | stale
  | noSlot
  | badRecord
  | badArg
  | wrongMode
  | busy
  | expired
  | inUse
  | noRef
  | unknown
deriving DecidableEq, Repr

/-- The byte of an outcome code (R195). -/
def outcomeByte : OutcomeCode → Byte
  | .ok => 0x00#8
  | .accepted => 0x01#8
  | .empty => 0x02#8
  | .stale => 0x03#8
  | .noSlot => 0x04#8
  | .badRecord => 0x05#8
  | .badArg => 0x06#8
  | .wrongMode => 0x07#8
  | .busy => 0x08#8
  | .expired => 0x09#8
  | .inUse => 0x0A#8
  | .noRef => 0x0B#8
  | .unknown => 0x0C#8

/-- What a request answers: its outcome and its data bytes (R190). -/
structure Answer where
  outcome : OutcomeCode
  data : List Byte
deriving DecidableEq, Repr

/-- The result bytes of a request: the outcome byte, then the data bytes (R190). -/
def Answer.bytes (a : Answer) : List Byte := outcomeByte a.outcome :: a.data

/-- An answer that returns 0 in every one of its `n` data bytes (R190). -/
def zeroAnswer (outcome : OutcomeCode) (n : Nat) : Answer :=
  { outcome := outcome, data := List.replicate n 0#8 }

/-- A one-bit field in a byte of its own (R197). -/
def flagByte (b : Bool) : Byte := if b then 1#8 else 0#8

/-- A number of watches or notices, 0 to 64, as a byte (R115, R187). -/
def countByte (n : Nat) : Byte := BitVec.ofNat 8 n

/-- A watch state (R197). -/
def watchStateByte : WatchState → Byte
  | .arming => 1#8
  | .quiet => 2#8
  | .qualifying => 3#8
  | .tripped => 4#8
  | .suspended => 5#8
  | .expired => 6#8

/-- A notice kind (R197). -/
def noticeKindByte : NoticeKind → Byte
  | .trip => 1#8
  | .clear => 2#8
  | .step => 3#8
  | .fault => 4#8
  | .expiry => 5#8

/-- The kind of a pending notice, or 0 for none (R197). -/
def pendingKindByte : Option Notice → Byte
  | none => 0#8
  | some n => noticeKindByte n.kind

/-- A watch kind (R90). -/
def watchKindByte : WatchKind → Byte
  | .above => 0#8
  | .below => 1#8
  | .outside => 2#8
  | .inside => 3#8
  | .delta => 4#8

/-- A channel kind (R137). -/
def channelKindByte : ChannelKind → Byte
  | .analog => 0#8
  | .edge => 1#8
  | .supply => 2#8

/-- An edge mode (R134). -/
def edgeModeByte : EdgeMode → Byte
  | .width => 0#8
  | .period => 1#8
  | .count => 2#8

/-- A polarity (R134). -/
def polarityByte : Polarity → Byte
  | .rising => 0#8
  | .falling => 1#8

/-- A measure rate (R134). -/
def measureRateByte : MeasureRate → Byte
  | .us1 => 0#8
  | .us8 => 1#8
  | .us64 => 2#8
  | .us512 => 3#8

/-- A plan mode (R146). -/
def planModeByte : PlanMode → Byte
  | .one => 0#8
  | .pass => 1#8
  | .loop => 2#8
  | .priorityLoop => 3#8

/-- A trigger setting (R146). -/
def triggerByte : Trigger → Byte
  | .command => 0#8
  | .pin => 1#8

/-- A resolution (R146). -/
def resolutionByte : Resolution → Byte
  | .full => 0#8
  | .fast => 1#8

/-- An engine state (R187). -/
def engineByte : EngineState → Byte
  | .idle => 0#8
  | .armed => 1#8
  | .waitRef => 2#8
  | .converting => 3#8

/-- A reference state (R187). -/
def referenceByte : ReferenceState → Byte
  | .off => 0#8
  | .settling => 1#8
  | .ready => 2#8

/-- A mode (R177). -/
def modeByte : Mode → Byte
  | .config => 0#8
  | .run => 1#8
  | .hold => 2#8

/-- The requested mode: none is 3 (R177). -/
def requestedByte : Option PendingTarget → Byte
  | none => 3#8
  | some .config => 0#8
  | some .hold => 2#8

/-! ## Channels by number -/

/-- The kind of a channel, fixed by its number (R130). -/
def channelKind (c : ChannelId) : ChannelKind :=
  if c.val ≤ 11 then .analog else if c.val ≤ 13 then .edge else .supply

/-- The channel maximum (R95, R130). -/
def channelMax (c : ChannelId) : Nat :=
  match channelKind c with
  | .analog => Config.converterMax
  | .edge => Config.edgeMax
  | .supply => Config.converterMax

/-- The channel of an edge input (R130). -/
def edgeChannel : EdgeInput → ChannelId
  | .edg0 => 12
  | .edg1 => 13

/-- The edge input of a channel, if it is an EDGE channel (R130). -/
def edgeInputOf (c : ChannelId) : Option EdgeInput :=
  if c.val = 12 then some .edg0 else if c.val = 13 then some .edg1 else none

/-- One edge input's part of a pair. -/
def PerEdge.get {α : Type} (p : PerEdge α) : EdgeInput → α
  | .edg0 => p.edg0
  | .edg1 => p.edg1

/-- A pair with one edge input's part replaced. -/
def PerEdge.set {α : Type} (p : PerEdge α) (x : α) : EdgeInput → PerEdge α
  | .edg0 => { p with edg0 := x }
  | .edg1 => { p with edg1 := x }

/-- The microseconds one count of a measure rate stands for (R131). -/
def rateMicroseconds : MeasureRate → Nat
  | .us1 => 1
  | .us8 => 8
  | .us64 => 64
  | .us512 => 512

/-- The count an ending edge takes in WIDTH or PERIOD: the whole periods of the measure rate that have
passed since the starting edge, 65535 for an edge that meets the end of the range and is taken first (R165, R167, R169). -/
def measuredCount (rate : MeasureRate) (elapsed : Nat) : Word :=
  BitVec.ofNat 16 (min (elapsed / rateMicroseconds rate) Config.edgeMax)

/-- Whether the range of a measurement had run out before an edge that comes `elapsed` microseconds after its starting edge:
more than 65536 periods of the measure rate have passed (R165). -/
def rangeRanOut (rate : MeasureRate) (elapsed : Nat) : Bool :=
  decide (Config.rangePeriods * rateMicroseconds rate < elapsed)

/-- The value the engine delivers for what the converter made: at FULL the 12-bit result, at FAST four times
the 10-bit result (R157, log 7). -/
def deliveredValue (resolution : Resolution) (result : BitVec 12) : Word :=
  match resolution with
  | .full => result.setWidth 16
  | .fast => BitVec.ofNat 16 (4 * (result.toNat % 1024))

/-- Whether a conversion on a channel can deliver a value while the device operates: a conversion of the supply, on channel
14, delivers no value outside the working range of 2.7 to 5.5 V (R143, R200). -/
def sampleable (c : ChannelId) (v : Word) : Bool :=
  channelKind c != .supply || decide (Config.supplyMin ≤ v.toNat ∧ v.toNat ≤ Config.supplyMax)

end Sys2Proof.Machine
end

