-- ==== Sys2Proof/Machine/Flags.lean ====
section
/-! DEFINITION. The bytes that carry flags: the summary byte and the flag bytes of results (R197 to R199). -/

namespace Sys2Proof.Machine

/-- The summary byte from its bits: the mode on bits 7 and 6, then pending change, reference READY, engine
out of IDLE, list not empty, NOTIFYn asserted and trigger overrun on bits 5 to 0 (R199). -/
def summaryBits (mode : Mode) (pendingChange ready busy listed notify overrun : Bool) : Byte :=
  BitVec.ofNat 8
    ((modeByte mode).toNat * 64 + pendingChange.toNat * 32 + ready.toNat * 16 + busy.toNat * 8 +
      listed.toNat * 4 + notify.toNat * 2 + overrun.toNat)

/-- The channel flags byte of CHANNEL-READ: fresh in bit 0, fault mark in bit 1 (R197). -/
def channelFlags (fresh faultMark : Bool) : Byte := BitVec.ofNat 8 (faultMark.toNat * 2 + fresh.toNat)

/-- The notice flags byte: coalesced in bit 0, the watch's fault mark in bit 1 (R198). -/
def noticeFlags (coalesced faultMark : Bool) : Byte := BitVec.ofNat 8 (faultMark.toNat * 2 + coalesced.toNat)

/-- The status flags byte: last value present in bit 0, fault mark in bit 1 (R199). -/
def statusFlags (present faultMark : Bool) : Byte := BitVec.ofNat 8 (faultMark.toNat * 2 + present.toNat)

end Sys2Proof.Machine
end

