-- ==== Sys2Proof/Machine/Ops.lean ====
section
/-! DEFINITION. The named operations that commands share: the watch table, the pending list and NOTIFYn, handle
checks, the evaluation of arrivals and the posting of notices, the sweep plan's cycle, changes of mode, and the
frame around a request. -/

namespace Sys2Proof.Machine

/-- The outcome of a command. -/
abbrev StepOutcome := Host.Outcome State Fault Refusal

/-- Change every entry of a table by `f`, which is given the entry's number. -/
def mapEntries {α : Type} {n : Nat} (f : Fin n → α → α) (v : Vector α n) : Vector α n :=
  ⟨(List.zipWith (fun a i => f i a) v.toList (List.finRange n)).toArray, by simp⟩

/-! ## The watch table -/

/-- The watch in a slot, none while the slot is FREE (R1). -/
def State.watchAt (s : State) (i : SlotId) : Option Watch := s.slots[i].watch

/-- The generation of a slot (R1). -/
def State.generationAt (s : State) (i : SlotId) : BitVec 4 := s.slots[i].generation

/-- The handle of the watch in a slot (R15). -/
def State.handleAt (s : State) (i : SlotId) : Word := makeHandle (s.generationAt i) i

/-- Change every live watch by `f`; FREE slots and generations stay. -/
def State.mapWatches (f : SlotId → Watch → Watch) (s : State) : State :=
  { s with slots := mapEntries (fun i slot => { slot with watch := slot.watch.map (f i) }) s.slots }

/-- Replace the watch of one live slot. -/
def State.setWatch (i : SlotId) (w : Watch) (s : State) : State :=
  s.mapWatches fun j x => if j = i then w else x

/-- Fill a FREE slot with a new watch; the slot keeps its generation (R16, R98). -/
def State.fillSlot (i : SlotId) (w : Watch) (s : State) : State :=
  { s with slots := mapEntries (fun j slot => if j = i then { slot with watch := some w } else slot) s.slots }

/-- Whether a slot holds a watch that `p` selects. -/
def State.selects (p : SlotId → Watch → Bool) (s : State) (i : SlotId) : Bool := (s.watchAt i).any (p i)

/-- How many live watches `p` selects. -/
def State.countWatches (p : SlotId → Watch → Bool) (s : State) : Nat :=
  ((List.finRange 64).filter (s.selects p)).length

/-- Free every live slot that `p` selects: its generation advances by one, modulo 16, and it leaves the
pending list with its notice (R16, R57, R106). -/
def State.freeWatches (p : SlotId → Watch → Bool) (s : State) : State :=
  { s with
    slots := mapEntries
      (fun i slot => if s.selects p i then { generation := slot.generation + 1#4, watch := none } else slot) s.slots
    joined := s.joined.filter fun i => !s.selects p i }

/-- The live watch count (R2). -/
def State.liveCount (s : State) : Nat := s.countWatches fun _ _ => true

/-- The lowest-numbered FREE slot (R18). -/
def State.lowestFree (s : State) : Option SlotId :=
  (List.finRange 64).find? fun i => (s.watchAt i).isNone

/-- The handle check (R17): BAD_ARG above 1023, STALE for a FREE slot or another generation, else the
slot and its watch. -/
def State.lookup (handle : Word) (s : State) : Except OutcomeCode (SlotId × Watch) :=
  if Config.handleMax < handle.toNat then .error .badArg
  else match s.watchAt (handleSlot handle) with
    | none => .error .stale
    | some w =>
      if s.generationAt (handleSlot handle) = handleGeneration handle then .ok (handleSlot handle, w)
      else .error .stale

/-- Whether a live watch matches a tag and a mask: its owner agrees with the tag in every bit of the mask (R114). -/
def Watch.tagMatch (tag mask : BitVec 11) (w : Watch) : Bool :=
  (w.settings.owner ^^^ tag) &&& mask == 0#11

/-- In service: ARMING, QUIET, QUALIFYING or TRIPPED, the states that arrivals evaluate (R12). -/
def Watch.inService (w : Watch) : Bool :=
  match w.state with
  | .arming => true
  | .quiet => true
  | .qualifying => true
  | .tripped => true
  | .suspended => false
  | .expired => false

/-- Whether the watch is EXPIRED. -/
def Watch.isExpired (w : Watch) : Bool := w.state == .expired

/-- Whether ticks count the watch down: leased, and not EXPIRED (R79). -/
def Watch.counting (w : Watch) : Bool := w.settings.lease != 0#16 && !w.isExpired

/-! ## The pending list and NOTIFYn -/

/-- The priority of the watch in a slot. -/
def State.priorityAt (s : State) (i : SlotId) : Option (Fin 8) := (s.watchAt i).map (·.settings.priority)

/-- The pending list, head first: by current priority, 7 first, and within one priority by order of joining (R55). -/
def State.pendingList (s : State) : List SlotId :=
  [7, 6, 5, 4, 3, 2, 1, 0].flatMap fun (p : Fin 8) => s.joined.filter fun i => s.priorityAt i == some p

/-- The pending count (R50). -/
def State.pendingCount (s : State) : Nat := s.joined.length

/-- The head of the pending list with its watch and its notice (R50, R60). -/
def State.head (s : State) : Option (SlotId × Watch × Notice) :=
  match s.pendingList with
  | [] => none
  | i :: _ =>
    match s.watchAt i with
    | none => none
    | some w => w.notice.map fun n => (i, w, n)

/-- The handle of the head's watch, or "no handle" (R71). -/
def State.headHandle (s : State) : Word :=
  match s.pendingList with
  | [] => Config.noHandle
  | i :: _ => s.handleAt i

/-- NOTIFYn is asserted exactly while notification is enabled and the list holds a notice whose watch's priority is at
least the threshold (R67). -/
def State.notifyAsserted (s : State) : Bool :=
  s.notify.enable && s.joined.any fun i =>
    match s.priorityAt i with
    | some p => decide (s.notify.threshold ≤ p)
    | none => false

/-- The summary byte as the device stands (R194, R199). -/
def State.summaryByte (s : State) : Byte :=
  summaryBits s.mode s.requested.isSome (s.reference == .ready) (s.engine != .idle) (!s.joined.isEmpty)
    s.notifyAsserted s.triggerOverrun

/-! ## Posting notices -/

/-- What an event makes of one watch: the watch with its new live fields, and the notice it posts, if any. -/
structure Judgement where
  watch : Watch
  posting : Option (NoticeKind × Word)
deriving DecidableEq, Repr

/-- A judgement that leaves a watch as it is. -/
def Judgement.unchanged (w : Watch) : Judgement := { watch := w, posting := none }

/-- The watch after a judgement: a posting becomes its pending notice, with coalesced set when it replaces one (R52,
R53). -/
def Judgement.posted (j : Judgement) : Watch :=
  match j.posting with
  | none => j.watch
  | some (k, v) => { j.watch with notice := some { kind := k, value := v, coalesced := j.watch.notice.isSome } }

/-- Whether a slot's watch posts under `f`. -/
def State.posts (f : SlotId → Watch → Judgement) (s : State) (i : SlotId) : Bool :=
  s.selects (fun i w => (f i w).posting.isSome) i

/-- Whether a slot joins the pending list under `f`: its watch posts and has no pending notice (R51). -/
def State.joins (f : SlotId → Watch → Judgement) (s : State) (i : SlotId) : Bool :=
  s.selects (fun i w => (f i w).posting.isSome && w.notice.isNone) i

/-- One event at the watch table: every live watch is judged by `f`, the postings join or replace in ascending slot
order (R24, R52, R53), and a posting to the claimed watch cancels the take claim (R62). -/
def State.judge (f : SlotId → Watch → Judgement) (s : State) : State :=
  { s.mapWatches (fun i w => (f i w).posted) with
    joined := s.joined ++ (List.finRange 64).filter (s.joins f)
    port := { s.port with claim := s.port.claim.filter fun c => !s.posts f c.slot } }

/-! ## Evaluating samples -/

/-- The distance between two samples (R31). -/
def distance (a b : Nat) : Nat := (a - b) + (b - a)

/-- The entry test (R29, R30, R31) on the exact values (R28). -/
def Watch.entryTest (w : Watch) (v : Word) : Bool :=
  let a := w.settings.levelA.toNat
  let b := (w.settings.levelB.getD 0#16).toNat
  match w.settings.kind with
  | .above => decide (a ≤ v.toNat)
  | .below => decide (v.toNat ≤ a)
  | .outside => decide (v.toNat < a ∨ b < v.toNat)
  | .inside => decide (a ≤ v.toNat ∧ v.toNat ≤ b)
  | .delta =>
    match w.reference with
    | none => false
    | some r => decide (w.settings.step.toNat ≤ distance v.toNat r.toNat)

/-- The exit test of a TRIPPED watch (R32, R33, R34); a DELTA watch is never TRIPPED (R43). -/
def Watch.exitTest (w : Watch) (v : Word) : Bool :=
  let a := w.settings.levelA.toNat
  let b := (w.settings.levelB.getD 0#16).toNat
  let h := w.settings.hysteresis.toNat
  match w.settings.kind with
  | .above => decide (v.toNat + h < a)
  | .below => decide (a + h < v.toNat)
  | .outside => decide (a + h ≤ v.toNat ∧ v.toNat + h ≤ b)
  | .inside => decide (v.toNat + h < a ∨ b + h < v.toNat)
  | .delta => false

/-- What a watch does when a run of qualification reaches its dwell (R39, R40): a level kind trips, a DELTA watch
steps. -/
def Watch.act (w : Watch) (v : Word) : Judgement :=
  match w.settings.kind with
  | .delta =>
    { watch := { w with state := .quiet, dwellCount := 0, reference := some v }, posting := some (.step, v) }
  | _ => { watch := { w with state := .tripped, dwellCount := 0 }, posting := some (.trip, v) }

/-- The entry test applied to a run of `count` qualifying samples before this one (R36, R39, R40). -/
def Watch.qualify (w : Watch) (count : Nat) (v : Word) : Judgement :=
  if w.entryTest v then
    if count + 1 < w.settings.dwell then
      .unchanged { w with state := .qualifying, dwellCount := count + 1 }
    else w.act v
  else .unchanged { w with state := .quiet, dwellCount := 0 }

/-- A good sample: the fault mark is cleared and the last value set, then the state decides (R37 to R41, R46). -/
def Watch.goodSample (w : Watch) (v : Word) : Judgement :=
  let u := { w with faultMark := false, lastValue := some v }
  match w.state with
  | .arming =>
    match w.settings.kind with
    | .delta => .unchanged { u with state := .quiet, dwellCount := 0, reference := some v }
    | _ => u.qualify 0 v
  | .quiet => u.qualify 0 v
  | .qualifying => u.qualify w.dwellCount v
  | .tripped =>
    if w.exitTest v then
      { watch := { u with state := .quiet, dwellCount := 0 }, posting := some (.clear, v) }
    else .unchanged u
  | .suspended => .unchanged w
  | .expired => .unchanged w

/-- A faulted sample: it breaks a run, and posts FAULT when the mark was clear (R44, R45). -/
def Watch.faultedSample (w : Watch) : Judgement :=
  let state := if w.state = .qualifying then .quiet else w.state
  { watch := { w with state := state, dwellCount := 0, faultMark := true }
    posting := if w.faultMark then none else some (.fault, Config.faultedValue) }

/-- The evaluation of one watch on an arrival on channel `c` (R22, R23). -/
def evaluate (c : ChannelId) (v : Word) (faulted : Bool) (w : Watch) : Judgement :=
  if w.settings.channel = c ∧ w.inService then
    if faulted then w.faultedSample else w.goodSample v
  else .unchanged w

/-- Change one entry of the channel table. -/
def State.setEntry (c : ChannelId) (e : ChannelEntry) (s : State) : State :=
  { s with channels := mapEntries (fun d old => if d = c then e else old) s.channels }

/-- What an arrival writes into the channel entry (R138). -/
def ChannelEntry.arrive (v : Word) (faulted : Bool) (e : ChannelEntry) : ChannelEntry :=
  { e with latest := v, sequence := e.sequence + 1#8, fresh := true, faultMark := faulted }

/-- A sample arrival: the channel table records it and the evaluator applies it, in one event (R22, R138). -/
def State.arrival (c : ChannelId) (v : Word) (faulted : Bool) (s : State) : State :=
  (s.setEntry c (s.channels[c].arrive v faulted)).judge fun _ w => evaluate c v faulted w

/-! ## Leases -/

/-- The expiry of a leased watch (R80). -/
def Watch.expire (w : Watch) : Judgement :=
  { watch := { w with state := .expired, dwellCount := 0, leaseRemaining := 0#16 }
    posting := some (.expiry, w.lastValue.getD 0#16) }

/-- A tick at one watch (R79, R80). -/
def Watch.tick (w : Watch) : Judgement :=
  if w.counting then
    if w.leaseRemaining.toNat ≤ 1 then w.expire
    else .unchanged { w with leaseRemaining := w.leaseRemaining - 1#16 }
  else .unchanged w

/-- The reload of a lease (R84). -/
def Watch.reload (w : Watch) : Watch := { w with leaseRemaining := w.settings.lease }

/-! ## Suspending and resuming -/

/-- SUSPEND of a watch in service (R108). -/
def Watch.suspended (w : Watch) : Watch := { w with state := .suspended, dwellCount := 0 }

/-- Discard the sample history, as RESUME and a re-arming AMEND do (R14). -/
def Watch.forgotten (w : Watch) : Watch :=
  { w with dwellCount := 0, faultMark := false, lastValue := none, reference := none }

/-- RESUME of a SUSPENDED watch (R109). -/
def Watch.resumed (w : Watch) : Watch := { w.forgotten with state := .arming }

/-! ## The sweep plan -/

/-- The channels of a set in ascending order (R145). -/
def channelsOf (set : BitVec 15) : List ChannelId := (List.finRange 15).filter fun c => set.getLsbD c.val

/-- The conversion cycle of a plan (R145). -/
def SweepPlan.cycle (p : SweepPlan) : List ChannelId :=
  match p.mode with
  | .one => [p.single]
  | .pass => channelsOf p.members
  | .loop => channelsOf p.members
  | .priorityLoop => (channelsOf p.members).flatMap fun m => channelsOf p.priorities ++ [m]

/-- Whether the plan contains a channel: an accepted plan whose mode converts it (R133). -/
def SweepPlan.contains (p : SweepPlan) (c : ChannelId) : Bool := p.accepted && p.cycle.contains c

/-- Whether a live watch names a channel (R133). -/
def State.namesChannel (s : State) (c : ChannelId) : Bool :=
  (List.finRange 64).any (s.selects fun _ w => w.settings.channel == c)

/-! ## The edge timing unit -/

/-- Write one edge input's measurement record. -/
def State.setEdge (e : EdgeInput) (r : EdgeRecord) (s : State) : State := { s with edges := s.edges.set r e }

/-- The arrival of the sample of a COUNT window that a tick has ended (R78, R172; log 9). -/
def State.deliverWindow (e : EdgeInput) (s : State) : State :=
  match (s.edges.get e).windowDue with
  | none => s
  | some v => (s.setEdge e { s.edges.get e with windowDue := none }).arrival (edgeChannel e) v false

/-- The window samples still due arrive before the next tick and before RUN is left (R172, R173; log 9). -/
def State.deliverWindows (s : State) : State := (s.deliverWindow .edg0).deliverWindow .edg1

/-- A tick at one edge channel (R170, R171). -/
def EdgeRecord.tick (settings : EdgeSettings) (r : EdgeRecord) : EdgeRecord :=
  if settings.mode = .count then
    match r.state with
    | .idle => r
    | .waiting => { r with state := .measuring, count := 0#16, gateCountdown := settings.gate }
    | .measuring =>
      if r.gateCountdown.toNat ≤ 1 then
        { r with count := 0#16, gateCountdown := settings.gate, windowDue := some r.count }
      else { r with gateCountdown := r.gateCountdown - 1#8 }
  else r

/-- An edge channel that is not measured (R164, R173). -/
def EdgeRecord.stopped : EdgeRecord := { state := .idle, count := 0#16, gateCountdown := 0#8, windowDue := none }

/-- An edge channel at the start of RUN (R164, R174). -/
def EdgeRecord.started (enabled : Bool) : EdgeRecord :=
  { state := if enabled then .waiting else .idle, count := 0#16, gateCountdown := 0#8, windowDue := none }

/-! ## Changes of mode -/

/-- The time base under a change of mode (R77): leaving CONFIG loads and starts it, entering CONFIG stops it. -/
def TimeBase.changeMode (current target : Mode) (t : TimeBase) : TimeBase :=
  match target, current with
  | .config, _ => { t with countdown := none }
  | _, .config => { t with periodInEffect := t.periodSetting, countdown := some t.periodSetting }
  | _, _ => t

/-- The edge channels under a change of mode (R164, R173, R174). -/
def State.changedEdges (target : Mode) (s : State) : PerEdge EdgeRecord :=
  match target with
  | .run =>
    { edg0 := EdgeRecord.started s.channels[edgeChannel .edg0].enabled
      edg1 := EdgeRecord.started s.channels[edgeChannel .edg1].enabled }
  | _ => { edg0 := EdgeRecord.stopped, edg1 := EdgeRecord.stopped }

/-- The event at mode control that carries out a change to another mode (R180, R181, R183). -/
def State.enterMode (target : Mode) (s : State) : State :=
  let s := s.deliverWindows
  { s with
    mode := target
    requested := none
    engine := .idle
    position := 0
    edges := s.changedEdges target
    timeBase := s.timeBase.changeMode s.mode target }

/-- The mode a pending target names (R177). -/
def PendingTarget.toMode : PendingTarget → Mode
  | .config => .config
  | .hold => .hold

/-- Whether the device is held at its reset values (R185, R200). -/
def State.held (s : State) : Bool := s.rstnLow || s.supplyLow

/-! ## The frame -/

/-- Whether the port is RECEIVING and the bytes of a request go on from the bytes received, with at least the last one still to
come (R189, R191; log 3). -/
def Port.awaits (p : Port) (request : List Byte) : Bool :=
  p.phase == .receiving && decide (p.received.length < request.length) && p.received.isPrefixOf request

/-- The port after a request is taken: ANSWERING, with the result bytes fixed (R190, R191). -/
def State.answer (request : List Byte) (a : Answer) (s : State) : State :=
  { s with port := { s.port with phase := .answering, received := request, miso := .result a.bytes } }

/-- The frame around a request: in RECEIVING, when its request bytes arrive, the request acts and its answer is fixed
(R189, R190); in any other phase, or in a frame of other bytes, nothing changes (R191; log 2, log 3). -/
def takeRequest (request : List Byte) (act : State → State × Answer) (s : State) : StepOutcome :=
  if s.port.awaits request then .next ((act s).1.answer request (act s).2) else .next s

end Sys2Proof.Machine
end

