-- ==== Sys2Proof/Machine/Channels.lean ====
section
/-! DEFINITION. The requests on the channel table: CHANNEL-SET, CHANNEL-GET and CHANNEL-READ (R134 to R142). -/

namespace Sys2Proof.Machine

/-- The six data bytes of CHANNEL-GET and of an accepted CHANNEL-SET (R136, R137). -/
def State.channelBytes (c : ChannelId) (s : State) : List Byte :=
  [channelKindByte (channelKind c), flagByte s.channels[c].enabled] ++
    match edgeInputOf c with
    | none => [0#8, 0#8, 0#8, 0#8]
    | some e =>
      let t := s.edgeSettings.get e
      [edgeModeByte t.mode, polarityByte t.polarity, measureRateByte t.rate, t.gate]

/-- Whether new edge settings change the unit of the counts: the edge mode or the measure rate (R135, R136). -/
def EdgeSettings.changesUnit (t u : EdgeSettings) : Bool := t.mode != u.mode || t.rate != u.rate

/-- Whether a CHANNEL-SET takes away a channel in use (R135). `edge` is the edge input and its new settings. -/
def State.takesAway (c : ChannelId) (enabled : Bool) (edge : Option (EdgeInput × EdgeSettings)) (s : State) : Bool :=
  (!enabled && (s.namesChannel c || s.plan.contains c)) ||
    match edge with
    | none => false
    | some (e, t) => (s.edgeSettings.get e).changesUnit t && s.namesChannel c

/-- The entry after an accepted CHANNEL-SET: a change of unit drops the latest sample (R136). -/
def ChannelEntry.configured (enabled dropped : Bool) (e : ChannelEntry) : ChannelEntry :=
  if dropped then { e with enabled := enabled, latest := 0#16, fresh := false, faultMark := false }
  else { e with enabled := enabled }

/-- The write of an accepted CHANNEL-SET (R136). -/
def State.configure (c : ChannelId) (enabled : Bool) (edge : Option (EdgeInput × EdgeSettings)) (s : State) : State :=
  match edge with
  | none => s.setEntry c (s.channels[c].configured enabled false)
  | some (e, t) =>
    { s.setEntry c (s.channels[c].configured enabled ((s.edgeSettings.get e).changesUnit t)) with
      edgeSettings := s.edgeSettings.set t e }

/-- CHANNEL-SET once its arguments are within their codes: the mode, then the channel in use, then the write (R134). -/
def channelSetChecked (c : ChannelId) (enabled : Bool) (edge : Option (EdgeInput × EdgeSettings)) (s : State) :
    State × Answer :=
  if s.mode ≠ .config then (s, zeroAnswer .wrongMode 6)
  else if s.takesAway c enabled edge then (s, zeroAnswer .inUse 6)
  else (s.configure c enabled edge, { outcome := .ok, data := (s.configure c enabled edge).channelBytes c })

/-- The edge part of CHANNEL-SET's arguments: not read for other channels; none when an edge argument is outside its
codes (R134). -/
def edgeArguments (c : ChannelId) (edgeMode polarity rate gate : Byte) : Option (Option (EdgeInput × EdgeSettings)) :=
  match edgeInputOf c with
  | none => some none
  | some e => (edgeSettingsOf edgeMode polarity rate gate).map fun t => some (e, t)

/-- CHANNEL-SET (R134). -/
def channelSet (channel enabled edgeMode polarity rate gate : Byte) (s : State) : State × Answer :=
  match channelOf channel.toNat with
  | none => (s, zeroAnswer .badArg 6)
  | some c =>
    match flagOf enabled.toNat, edgeArguments c edgeMode polarity rate gate with
    | some on, some edge => channelSetChecked c on edge s
    | _, _ => (s, zeroAnswer .badArg 6)

/-- CHANNEL-GET (R137). -/
def channelGet (channel : Byte) (s : State) : State × Answer :=
  match channelOf channel.toNat with
  | none => (s, zeroAnswer .badArg 6)
  | some c => (s, { outcome := .ok, data := s.channelBytes c })

/-- CHANNEL-READ (R141): the report is made before the fresh flag is cleared. -/
def channelRead (channel : Byte) (s : State) : State × Answer :=
  match channelOf channel.toNat with
  | none => (s, zeroAnswer .badArg 4)
  | some c =>
    let e := s.channels[c]
    (s.setEntry c { e with fresh := false },
     { outcome := .ok, data := wordBytes e.latest ++ [e.sequence, channelFlags e.fresh e.faultMark] })

/-- The meaning of CHANNEL_SET. -/
def execChannelSet (channel enabled edgeMode polarity rate gate : Byte) (s : State) : StepOutcome :=
  takeRequest (Instr.channelSet channel enabled edgeMode polarity rate gate).requestBytes
    (channelSet channel enabled edgeMode polarity rate gate) s

/-- The meaning of CHANNEL_GET. -/
def execChannelGet (channel : Byte) (s : State) : StepOutcome :=
  takeRequest (Instr.channelGet channel).requestBytes (channelGet channel) s

/-- The meaning of CHANNEL_READ. -/
def execChannelRead (channel : Byte) (s : State) : StepOutcome :=
  takeRequest (Instr.channelRead channel).requestBytes (channelRead channel) s

end Sys2Proof.Machine
end

