-- ==== Sys2Proof/Machine/Compose.lean ====
section
/-! DEFINITION. The requests on the compose buffer: COMPOSE-CLEAR, COMPOSE-WRITE, COMPOSE-READ and LOAD (R90 to R94). -/

namespace Sys2Proof.Machine

/-- COMPOSE-WRITE's check of an id and a value against the field's own range, and the write (R92). -/
def ComposeBuffer.write (b : ComposeBuffer) (field : Byte) (value : Word) : Option ComposeBuffer :=
  match field.toNat with
  | 0 => (tagOf value).map fun t => { b with owner := t }
  | 1 => (channelOf value.toNat).map fun c => { b with channel := c }
  | 2 => (watchKindOf value.toNat).map fun k => { b with kind := k }
  | 3 => some { b with levelA := value }
  | 4 => some { b with levelB := value }
  | 5 => if value.toNat ≤ 1023 then some { b with hysteresis := value.setWidth 10 } else none
  | 6 => if 1 ≤ value.toNat ∧ value.toNat ≤ 64 then some { b with dwell := value.toNat } else none
  | 7 => if value = 0#16 then none else some { b with step := value }
  | 8 => (priorityOf value.toNat).map fun p => { b with priority := p }
  | 9 => some { b with lease := value }
  | 10 => (flagOf value.toNat).map fun f => { b with startSuspended := f }
  | _ => none

/-- The value of one field, in its code (R90, R93). -/
def ComposeBuffer.read (b : ComposeBuffer) (field : Byte) : Option Word :=
  match field.toNat with
  | 0 => some (b.owner.setWidth 16)
  | 1 => some (BitVec.ofNat 16 b.channel.val)
  | 2 => some ((watchKindByte b.kind).setWidth 16)
  | 3 => some b.levelA
  | 4 => some b.levelB
  | 5 => some (b.hysteresis.setWidth 16)
  | 6 => some (BitVec.ofNat 16 b.dwell)
  | 7 => some b.step
  | 8 => some (BitVec.ofNat 16 b.priority.val)
  | 9 => some b.lease
  | 10 => some ((flagByte b.startSuspended).setWidth 16)
  | _ => none

/-- The buffer that LOAD makes of a watch's settings: an absent level B reads 0 and start suspended is no (R4, R94). -/
def Settings.toBuffer (t : Settings) : ComposeBuffer :=
  { owner := t.owner, channel := t.channel, kind := t.kind, levelA := t.levelA, levelB := t.levelB.getD 0#16,
    hysteresis := t.hysteresis, dwell := t.dwell, step := t.step, priority := t.priority, lease := t.lease,
    startSuspended := false }

/-- COMPOSE-CLEAR (R91). -/
def composeClear (s : State) : State × Answer :=
  ({ s with compose := ComposeBuffer.defaults }, { outcome := .ok, data := [] })

/-- COMPOSE-WRITE (R92): the data are the field id and the value the field now holds. -/
def composeWrite (field : Byte) (value : Word) (s : State) : State × Answer :=
  match s.compose.write field value with
  | none => (s, zeroAnswer .badArg 3)
  | some b =>
    ({ s with compose := b }, { outcome := .ok, data := field :: wordBytes ((b.read field).getD 0#16) })

/-- COMPOSE-READ (R93). -/
def composeRead (field : Byte) (s : State) : State × Answer :=
  match s.compose.read field with
  | none => (s, zeroAnswer .badArg 3)
  | some v => (s, { outcome := .ok, data := field :: wordBytes v })

/-- LOAD (R94). -/
def load (handle : Word) (s : State) : State × Answer :=
  match s.lookup handle with
  | .error o => (s, zeroAnswer o 1)
  | .ok (_, w) =>
    ({ s with compose := w.settings.toBuffer }, { outcome := .ok, data := [watchStateByte w.state] })

/-- The meaning of COMPOSE_CLEAR. -/
def execComposeClear (s : State) : StepOutcome := takeRequest Instr.composeClear.requestBytes composeClear s

/-- The meaning of COMPOSE_WRITE. -/
def execComposeWrite (field : Byte) (value : Word) (s : State) : StepOutcome :=
  takeRequest (Instr.composeWrite field value).requestBytes (composeWrite field value) s

/-- The meaning of COMPOSE_READ. -/
def execComposeRead (field : Byte) (s : State) : StepOutcome :=
  takeRequest (Instr.composeRead field).requestBytes (composeRead field) s

/-- The meaning of LOAD. -/
def execLoad (handle : Word) (s : State) : StepOutcome :=
  takeRequest (Instr.load handle).requestBytes (load handle) s

end Sys2Proof.Machine
end

