-- ==== Sys2Proof/Machine/Edges.lean ====
section
/-! DEFINITION. The events of the edge timing unit (R163 to R176). -/

namespace Sys2Proof.Machine

/-- The record of a channel that waits for the next measurement (R163). -/
def EdgeRecord.waitAgain (r : EdgeRecord) : EdgeRecord := { r with state := .waiting, count := 0#16 }

/-- The record of a channel whose measurement starts with the count at 0 (R165). -/
def EdgeRecord.startCount (r : EdgeRecord) : EdgeRecord := { r with state := .measuring, count := 0#16 }

/-- The record of a COUNT channel with one more edge counted, saturating (R171). -/
def EdgeRecord.countEdge (r : EdgeRecord) : EdgeRecord :=
  { r with count := if r.count = 65535#16 then r.count else r.count + 1#16 }

/-- The end of the range of a measurement in `mode`: a faulted sample, and the channel waits again (R165, R167, R169). -/
def State.rangeEnd (mode : EdgeMode) (e : EdgeInput) (s : State) : State :=
  let r := s.edges.get e
  if (s.edgeSettings.get e).mode = mode ∧ r.state = .measuring then
    (s.setEdge e r.waitAgain).arrival (edgeChannel e) Config.faultedValue true
  else s

/-- An active edge that finds a channel waiting for one starts a measurement (R166, R168). -/
def State.startMeasurement (e : EdgeInput) (s : State) : State := s.setEdge e (s.edges.get e).startCount

/-- An active edge on one edge input (R164, R166, R168, R171). In PERIOD it ends one measurement and starts the next; if the range
had run out before it, the faulted sample of the stall comes first and the edge hands none (R165, R169; log 6). An active edge
cannot reach a WIDTH channel in MEASURING (R164; log 2). -/
def State.activeEdge (e : EdgeInput) (elapsed : Nat) (s : State) : State :=
  let t := s.edgeSettings.get e
  let r := s.edges.get e
  match t.mode, r.state with
  | _, .idle => s
  | .width, .waiting => s.startMeasurement e
  | .width, .measuring => s
  | .period, .waiting => s.startMeasurement e
  | .period, .measuring =>
    if rangeRanOut t.rate elapsed then (s.rangeEnd .period e).startMeasurement e
    else (s.startMeasurement e).arrival (edgeChannel e) (measuredCount t.rate elapsed) false
  | .count, .waiting => s
  | .count, .measuring => s.setEdge e r.countEdge

/-- The opposite edge on one edge input: it ends a WIDTH measurement and is ignored otherwise (R164, R166). If the range had run
out before it, the faulted sample of the overflow comes first and the edge is ignored (R165, R167; log 6). -/
def State.oppositeEdge (e : EdgeInput) (elapsed : Nat) (s : State) : State :=
  let t := s.edgeSettings.get e
  let r := s.edges.get e
  if t.mode = .width ∧ r.state = .measuring then
    if rangeRanOut t.rate elapsed then s.rangeEnd .width e
    else (s.setEdge e r.waitAgain).arrival (edgeChannel e) (measuredCount t.rate elapsed) false
  else s

/-- The meaning of ACTIVE_EDGE. -/
def execActiveEdge (input : EdgeInput) (elapsed : Nat) (s : State) : StepOutcome := .next (s.activeEdge input elapsed)

/-- The meaning of OPPOSITE_EDGE. -/
def execOppositeEdge (input : EdgeInput) (elapsed : Nat) (s : State) : StepOutcome :=
  .next (s.oppositeEdge input elapsed)

/-- The meaning of OVERFLOW (R167): outside a WIDTH measurement the range end does not come (log 2). -/
def execOverflow (input : EdgeInput) (s : State) : StepOutcome := .next (s.rangeEnd .width input)

/-- The meaning of STALL (R169): outside a PERIOD measurement the range end does not come (log 2). -/
def execStall (input : EdgeInput) (s : State) : StepOutcome := .next (s.rangeEnd .period input)

/-- The meaning of WINDOW_END (R171, R172): the sample of the window that the last tick ended arrives; with no window ended
the event does not come (log 2, log 9). -/
def execWindowEnd (input : EdgeInput) (s : State) : StepOutcome := .next (s.deliverWindow input)

end Sys2Proof.Machine
end

