-- ==== Sys2Proof/Machine/Frame.lean ====
section
/-! DEFINITION. The frame of the command port: chip select, request bytes, unknown codes and the end of a result
(R189 to R194). -/

namespace Sys2Proof.Machine

/-- What an unknown code does: it changes nothing and is answered UNKNOWN with no data (R193). -/
def unknownCode (s : State) : State × Answer := (s, { outcome := .unknown, data := [] })

/-- The meaning of UNKNOWN_CODE (R193): a listed code is no unknown code, and as such a command it does not come (log 2). -/
def execUnknownCode (code : Byte) (s : State) : StepOutcome :=
  if (requestRow code).isNone then takeRequest (Instr.unknownCode code).requestBytes unknownCode s else .next s

/-- The meaning of CSN_FALL (R191, R194): a frame begins in RECEIVING with the summary byte as it stands, or HELD while the
device is held at its reset values. CSn that is low already does not fall (log 2). -/
def execCsnFall (s : State) : StepOutcome :=
  if s.port.phase = .idle then
    if s.held then .next { s with port := { s.port with phase := .held, received := [], miso := .zero } }
    else .next { s with port := { s.port with phase := .receiving, received := [], miso := .summary s.summaryByte } }
  else .next s

/-- The meaning of CSN_RISE (R65, R191, R192): the frame ends, an untaken request is discarded, and a take claim is cleared
without removal. CSn that is high already does not rise (log 2). -/
def execCsnRise (s : State) : StepOutcome :=
  if s.port.phase = .idle then .next s
  else .next { s with port := { s.port with phase := .idle, received := [], miso := .released, claim := none } }

/-- How many request bytes a frame has that began with these bytes (R189). -/
def frameLength : List Byte → Nat
  | [] => 0
  | code :: _ => requestLength code

/-- The meaning of LAST_RESULT_BYTE_END (R191): the result of a request other than NOTICE-TAKE is finished and the frame is
TRAILING. In any other frame the event does not come (log 2, log 13). -/
def execLastResultByteEnd (s : State) : StepOutcome :=
  if s.port.phase = .answering ∧ s.port.received ≠ Instr.noticeTake.requestBytes then
    .next { s with port := { s.port with phase := .trailing, miso := .zero } }
  else .next s

end Sys2Proof.Machine
end

