-- ==== Sys2Proof/Machine/Modes.lean ====
section
/-! DEFINITION. The time base, leases on ticks, mode control, SUMMARY and device reset (R72 to R83, R177 to R188, R200). -/

namespace Sys2Proof.Machine

/-- The four data bytes that report the two periods (R74, R76). -/
def State.periodBytes (s : State) : List Byte :=
  wordBytes s.timeBase.periodSetting ++ wordBytes s.timeBase.periodInEffect

/-- TIMEBASE-SET (R74). -/
def timebaseSet (period : Word) (s : State) : State × Answer :=
  if period = 0#16 then (s, zeroAnswer .badArg 4)
  else
    let t := { s with timeBase := { s.timeBase with periodSetting := period } }
    (t, { outcome := .ok, data := t.periodBytes })

/-- TIMEBASE-GET (R76). -/
def timebaseGet (s : State) : State × Answer := (s, { outcome := .ok, data := s.periodBytes })

/-- The two data bytes of an accepted MODE-REQUEST (R179). -/
def State.modeBytes (s : State) : List Byte := [modeByte s.mode, requestedByte s.requested]

/-- A change to a target other than the current mode, with no change pending (R179, checks 4 to 6). Out of RUN with a
conversion in flight it is recorded as pending (R182); a target of RUN finds the mode other than RUN. -/
def changeMode (target : Mode) (s : State) : State × Answer :=
  let pending : Option PendingTarget :=
    if s.mode = .run ∧ s.engine = .converting then
      match target with
      | .config => some .config
      | .hold => some .hold
      | .run => none
    else none
  match pending with
  | some p =>
    let t := { s with requested := some p }
    (t, { outcome := .accepted, data := t.modeBytes })
  | none => (s.enterMode target, { outcome := .ok, data := (s.enterMode target).modeBytes })

/-- MODE-REQUEST (R179). -/
def modeRequest (target : Byte) (s : State) : State × Answer :=
  match modeOf target.toNat with
  | none => (s, zeroAnswer .badArg 2)
  | some m =>
    if s.requested.isSome then (s, zeroAnswer .busy 2)
    else if m = s.mode then (s, { outcome := .ok, data := s.modeBytes })
    else changeMode m s

/-- The twelve data bytes of SUMMARY (R187, R199). -/
def State.summaryBytes (s : State) : List Byte :=
  [modeByte s.mode, requestedByte s.requested, engineByte s.engine, BitVec.ofNat 8 s.position,
   referenceByte s.reference, countByte s.pendingCount] ++ wordBytes s.headHandle ++
    [countByte s.liveCount, flagByte s.triggerOverrun] ++ wordBytes s.timeBase.periodInEffect

/-- SUMMARY (R187): the report is made before the trigger overrun flag is cleared. -/
def summary (s : State) : State × Answer :=
  ({ s with triggerOverrun := false }, { outcome := .ok, data := s.summaryBytes })

/-- The meaning of TIMEBASE_SET. -/
def execTimebaseSet (period : Word) (s : State) : StepOutcome :=
  takeRequest (Instr.timebaseSet period).requestBytes (timebaseSet period) s

/-- The meaning of TIMEBASE_GET. -/
def execTimebaseGet (s : State) : StepOutcome := takeRequest Instr.timebaseGet.requestBytes timebaseGet s

/-- The meaning of MODE_REQUEST. -/
def execModeRequest (target : Byte) (s : State) : StepOutcome :=
  takeRequest (Instr.modeRequest target).requestBytes (modeRequest target) s

/-- The meaning of SUMMARY. -/
def execSummary (s : State) : StepOutcome := takeRequest Instr.summary.requestBytes summary s

/-- The reload of the time base at an expiry (R73). -/
def TimeBase.reload (t : TimeBase) : TimeBase :=
  { t with periodInEffect := t.periodSetting, countdown := some t.periodSetting }

/-- The tick at the edge timing unit (R78, R170, R171). -/
def State.tickEdges (s : State) : State :=
  { s with
    edges :=
      { edg0 := s.edges.edg0.tick s.edgeSettings.edg0
        edg1 := s.edges.edg1.tick s.edgeSettings.edg1 } }

/-- The meaning of INTERVAL_EXPIRY (R73, R78, R79, R80): the countdown is reloaded and one tick goes to the watch table,
where the leases it empties expire, and to the edge timing unit. A stopped countdown does not expire (R72; log 2). -/
def execIntervalExpiry (s : State) : StepOutcome :=
  if s.timeBase.countdown.isSome then
    let t := s.deliverWindows
    .next ({ t with timeBase := t.timeBase.reload }.judge fun _ w => w.tick).tickEdges
  else .next s

/-- The meaning of LEASE_EXPIRY (R80): a leased watch whose lease remaining a tick brings to 0 expires. INTERVAL_EXPIRY
makes this happen for every such watch; as a command it is that part of the tick for one slot (log 8). -/
def execLeaseExpiry (slot : SlotId) (s : State) : StepOutcome :=
  if s.timeBase.countdown.isSome then
    .next (s.judge fun i w =>
      if i = slot ∧ w.counting ∧ w.leaseRemaining.toNat ≤ 1 then w.expire else .unchanged w)
  else .next s

/-- The meaning of MODE_CHANGE_CARRIED_OUT (R183): after the completion that ends the wait, the pending change is carried
out. With no change pending, or with the conversion still in flight, the event does not come (log 2). -/
def execModeChangeCarriedOut (s : State) : StepOutcome :=
  match s.requested with
  | none => .next s
  | some p => if s.engine = .converting then .next s else .next (s.enterMode p.toMode)

/-- The port after device reset: IDLE when CSn is high, HELD when it is low (R191). -/
def Port.reset (p : Port) : Port :=
  match p.phase with
  | .idle => State.reset.port
  | _ => { State.reset.port with phase := .held, miso := .zero }

/-- The meaning of DEVICE_RESET (R185, R200): every block takes its reset values; RSTn low or the supply below 2.7 V then
holds the device there. The queue is not the device's and stays (log 1). The command brings the reset whatever the levels of the
pins: powerOn with the supply in its working range already, where no rise can come, resets the device too, as do supplyFall with
the supply low and rstnFall with RSTn low (the model's choice, log 18). -/
def execDeviceReset (cause : ResetCause) (s : State) : StepOutcome :=
  .next { State.reset with
    port := s.port.reset
    rstnLow := match cause with
      | .rstnFall => true
      | .powerOn => s.rstnLow
      | .supplyFall => s.rstnLow
    supplyLow := match cause with
      | .supplyFall => true
      | .powerOn => false
      | .rstnFall => s.supplyLow
    pending := s.pending }

/-- The meaning of RSTN_RISE (R185): RSTn no longer holds the device. -/
def execRstnRise (s : State) : StepOutcome := .next { s with rstnLow := false }

end Sys2Proof.Machine
end

