-- ==== Sys2Proof/Machine/Notices.lean ====
section
/-! DEFINITION. Reading and taking notices and the notify setting (R59 to R70). -/

namespace Sys2Proof.Machine

/-- The answer about the head of the pending list (R59, R60, R198): OK with the nine bytes of the notice result, or EMPTY
with handle 65535. -/
def State.noticeAnswer (s : State) : Answer :=
  match s.head with
  | none => { outcome := .empty, data := wordBytes Config.noHandle ++ List.replicate 7 0#8 }
  | some (i, w, n) =>
    { outcome := .ok
      data := wordBytes (s.handleAt i) ++ wordBytes (w.settings.owner.setWidth 16) ++ [noticeKindByte n.kind] ++
        wordBytes n.value ++ [noticeFlags n.coalesced w.faultMark, watchStateByte w.state] }

/-- NOTICE-PEEK (R59). -/
def noticePeek (s : State) : State × Answer := (s, s.noticeAnswer)

/-- The claim that NOTICE-TAKE records (R61): the head's slot and its generation, or none for an empty list. -/
def State.newClaim (s : State) : Option TakeClaim :=
  s.head.map fun h => { slot := h.1, generation := s.generationAt h.1 }

/-- NOTICE-TAKE (R61). -/
def noticeTake (s : State) : State × Answer :=
  ({ s with port := { s.port with claim := s.newClaim } }, s.noticeAnswer)

/-- NOTIFY-SET (R66). -/
def notifySet (enable threshold : Byte) (s : State) : State × Answer :=
  match flagOf enable.toNat, priorityOf threshold.toNat with
  | some e, some t =>
    ({ s with notify := { enable := e, threshold := t } },
     { outcome := .ok, data := [flagByte e, BitVec.ofNat 8 t.val] })
  | _, _ => (s, zeroAnswer .badArg 2)

/-- Remove the pending notice of a slot: an EXPIRY frees the slot (R64), any other leaves the watch without a notice (R63). -/
def State.removeNotice (i : SlotId) (s : State) : State :=
  match s.watchAt i with
  | none => s
  | some w =>
    if w.isExpired then s.freeWatches fun j _ => j == i
    else
      { s.mapWatches (fun j x => if j = i then { x with notice := none } else x) with
        joined := s.joined.filter fun j => j != i }

/-- The removal that a standing claim makes at the end of the last result byte: the claimed notice goes if the slot's
generation still equals the claim's (R63). -/
def State.removeClaimed (s : State) : State :=
  match s.port.claim with
  | none => s
  | some c => if s.generationAt c.slot = c.generation then s.removeNotice c.slot else s

/-- The meaning of NOTICE_PEEK. -/
def execNoticePeek (s : State) : StepOutcome := takeRequest Instr.noticePeek.requestBytes noticePeek s

/-- The meaning of NOTICE_TAKE. -/
def execNoticeTake (s : State) : StepOutcome := takeRequest Instr.noticeTake.requestBytes noticeTake s

/-- The meaning of NOTIFY_SET. -/
def execNotifySet (enable threshold : Byte) (s : State) : StepOutcome :=
  takeRequest (Instr.notifySet enable threshold).requestBytes (notifySet enable threshold) s

/-- Whether the port is shifting out the result of a NOTICE-TAKE (R191). -/
def Port.answersTake (p : Port) : Bool :=
  p.phase == .answering && p.received == Instr.noticeTake.requestBytes

/-- The meaning of NOTICE_TAKE_REMOVAL, the end of NOTICE-TAKE's last result byte (R63, R64, R191): the claimed notice is
removed, the claim cleared and the frame TRAILING. Outside such a frame the event does not come (log 2, log 13). -/
def execNoticeTakeRemoval (s : State) : StepOutcome :=
  if s.port.answersTake then
    .next { s.removeClaimed with port := { s.port with phase := .trailing, miso := .zero, claim := none } }
  else .next s

end Sys2Proof.Machine
end

