-- ==== Sys2Proof/Machine/Sweep.lean ====
section
/-! DEFINITION. The sweep engine and the reference: PLAN-SET, PLAN-GET, START, STOP, REF-ON, REF-OFF and the events at
the engine (R144 to R162). -/

namespace Sys2Proof.Machine

/-- The arguments of PLAN-SET as an accepted plan, or none when one of them is outside its codes (R146, check 1). -/
def planOf (mode single : Byte) (members priorities : Word) (trigger resolution : Byte) : Option SweepPlan :=
  match planModeOf mode.toNat, channelOf single.toNat, channelSetOf members, channelSetOf priorities with
  | some m, some c, some ms, some ps =>
    match triggerOf trigger.toNat, resolutionOf resolution.toNat with
    | some t, some r =>
      some { mode := m, single := c, members := ms, priorities := ps, trigger := t, resolution := r, accepted := true }
    | _, _ => none
  | _, _, _, _ => none

/-- Whether the engine may convert a channel: enabled and not EDGE (R146). -/
def State.convertible (s : State) (c : ChannelId) : Bool :=
  s.channels[c].enabled && channelKind c != .edge

/-- Check 3 of PLAN-SET (R146), on the fields the requested mode converts. -/
def State.admits (s : State) (p : SweepPlan) : Bool :=
  match p.mode with
  | .one => s.convertible p.single
  | .pass => !(channelsOf p.members).isEmpty && (channelsOf p.members).all s.convertible
  | .loop => !(channelsOf p.members).isEmpty && (channelsOf p.members).all s.convertible
  | .priorityLoop =>
    !(channelsOf p.members).isEmpty && (channelsOf p.members).all s.convertible &&
      !(channelsOf p.priorities).isEmpty && decide ((channelsOf p.priorities).length ≤ 4) &&
      (channelsOf p.priorities).all s.convertible && p.members &&& p.priorities == 0#15

/-- PLAN-SET (R146, R147). -/
def planSet (mode single : Byte) (members priorities : Word) (trigger resolution : Byte) (s : State) :
    State × Answer :=
  match planOf mode single members priorities trigger resolution with
  | none => (s, zeroAnswer .badArg 1)
  | some p =>
    if s.mode ≠ .config then (s, zeroAnswer .wrongMode 1)
    else if s.admits p then
      ({ s with plan := p, position := 0 }, { outcome := .ok, data := [countByte p.cycle.length] })
    else (s, zeroAnswer .badArg 1)

/-- PLAN-GET (R148). -/
def planGet (s : State) : State × Answer :=
  let p := s.plan
  (s, { outcome := .ok
        data := [flagByte p.accepted, planModeByte p.mode, BitVec.ofNat 8 p.single.val] ++
          wordBytes (p.members.setWidth 16) ++ wordBytes (p.priorities.setWidth 16) ++
          [triggerByte p.trigger, resolutionByte p.resolution, countByte p.cycle.length] })

/-- The engine state in which a run begins that need not wait for TRIG (R153, R154). -/
def State.runState (s : State) : EngineState :=
  if s.reference = .ready then .converting else .waitRef

/-- The engine state after an accepted START (R153). -/
def State.startState (s : State) : EngineState :=
  match s.plan.trigger with
  | .command => s.runState
  | .pin => .armed

/-- START (R153). -/
def start (s : State) : State × Answer :=
  if s.mode ≠ .run then (s, zeroAnswer .wrongMode 1)
  else if s.requested.isSome then (s, zeroAnswer .busy 1)
  else if s.engine ≠ .idle then (s, zeroAnswer .busy 1)
  else if !s.plan.accepted then (s, zeroAnswer .empty 1)
  else if s.reference = .off then (s, zeroAnswer .noRef 1)
  else ({ s with engine := s.startState, position := 0 }, { outcome := .ok, data := [engineByte s.startState] })

/-- STOP (R160). -/
def stop (s : State) : State × Answer :=
  if s.requested.isSome then (s, zeroAnswer .busy 1)
  else ({ s with engine := .idle, position := 0 }, { outcome := .ok, data := [engineByte s.engine] })

/-- The reference after REF-ON (R150). -/
def switchedOn : ReferenceState → ReferenceState
  | .off => .settling
  | .settling => .settling
  | .ready => .ready

/-- REF-ON (R150). -/
def refOn (s : State) : State × Answer :=
  ({ s with reference := switchedOn s.reference },
   { outcome := .ok, data := [referenceByte (switchedOn s.reference)] })

/-- REF-OFF (R151). -/
def refOff (s : State) : State × Answer :=
  if s.engine = .idle then ({ s with reference := .off }, { outcome := .ok, data := [referenceByte .off] })
  else (s, zeroAnswer .busy 1)

/-- The engine state at the end of a run of ONE or PASS (R158). -/
def SweepPlan.rest (p : SweepPlan) : EngineState :=
  match p.trigger with
  | .command => .idle
  | .pin => .armed

/-- The engine's state and position after a completion (R158, R159). -/
def State.engineNext (s : State) : EngineState × Nat :=
  if s.requested.isSome then (.idle, 0)
  else if s.position + 1 < s.plan.cycle.length then (.converting, s.position + 1)
  else
    match s.plan.mode with
    | .one => (s.plan.rest, 0)
    | .pass => (s.plan.rest, 0)
    | .loop => (.converting, 0)
    | .priorityLoop => (.converting, 0)

/-- The meaning of PLAN_SET. -/
def execPlanSet (mode single : Byte) (members priorities : Word) (trigger resolution : Byte) (s : State) :
    StepOutcome :=
  takeRequest (Instr.planSet mode single members priorities trigger resolution).requestBytes
    (planSet mode single members priorities trigger resolution) s

/-- The meaning of PLAN_GET. -/
def execPlanGet (s : State) : StepOutcome := takeRequest Instr.planGet.requestBytes planGet s

/-- The meaning of START. -/
def execStart (s : State) : StepOutcome := takeRequest Instr.start.requestBytes start s

/-- The meaning of STOP. -/
def execStop (s : State) : StepOutcome := takeRequest Instr.stop.requestBytes stop s

/-- The meaning of REF_ON. -/
def execRefOn (s : State) : StepOutcome := takeRequest Instr.refOn.requestBytes refOn s

/-- The meaning of REF_OFF. -/
def execRefOff (s : State) : StepOutcome := takeRequest Instr.refOff.requestBytes refOff s

/-- The meaning of CONVERSION_COMPLETION (R158, R159): the arrival of the conversion's value, and the engine's next step.
With no conversion in flight the completion does not come (R157, R160; log 2), nor does one of the supply with a value that
the device does not sample while it operates (R200; log 7). -/
def execConversionCompletion (result : BitVec 12) (s : State) : StepOutcome :=
  let v := deliveredValue s.plan.resolution result
  if s.engine = .converting then
    match s.plan.cycle[s.position]? with
    | some c =>
      if sampleable c v then
        .next { s.arrival c v false with engine := s.engineNext.1, position := s.engineNext.2 }
      else .next s
    | none => .next s
  else .next s

/-- The meaning of SETTLE_EVENT (R150, R156). Unless the reference is SETTLING the event is cancelled or not awaited and
does not come (R151; log 2). -/
def execSettleEvent (s : State) : StepOutcome :=
  if s.reference = .settling then
    if s.engine = .waitRef then .next { s with reference := .ready, engine := .converting, position := 0 }
    else .next { s with reference := .ready }
  else .next s

/-- The meaning of TRIG_FALLING_EDGE (R154): ignored while the device is held, else it starts an ARMED run or sets the
trigger overrun flag. -/
def execTrigFallingEdge (s : State) : StepOutcome :=
  if s.held then .next s
  else if s.engine = .armed then .next { s with engine := s.runState, position := 0 }
  else .next { s with triggerOverrun := true }

end Sys2Proof.Machine
end

