-- ==== Sys2Proof/Machine/Tagged.lean ====
section
/-! DEFINITION. The tagged requests and the enumeration cursor (R114 to R129). -/

namespace Sys2Proof.Machine

/-- A tagged request in common (R115): a tag or a mask above 2047 is refused with BAD_ARG and `n` count bytes of 0;
otherwise the request acts. -/
def tagged (tag mask : Word) (n : Nat) (act : BitVec 11 → BitVec 11 → State → State × Answer) (s : State) :
    State × Answer :=
  match tagOf tag, tagOf mask with
  | some t, some m => act t m s
  | _, _ => (s, zeroAnswer .badArg n)

/-- Change the matching watches that `sel` selects and report how many they are (R116). -/
def changeMatching (sel : Watch → Bool) (f : Watch → Watch) (t m : BitVec 11) (s : State) : State × Answer :=
  (s.mapWatches fun _ w => if w.tagMatch t m && sel w then f w else w,
   { outcome := .ok, data := [countByte (s.countWatches fun _ w => w.tagMatch t m && sel w)] })

/-- RENEW-TAGGED (R117): the matching leased watches that are not EXPIRED are reloaded; the data count them and the
matching EXPIRED ones. -/
def renewTagged (t m : BitVec 11) (s : State) : State × Answer :=
  (s.mapWatches fun _ w => if w.tagMatch t m && w.counting then w.reload else w,
   { outcome := .ok
     data := [countByte (s.countWatches fun _ w => w.tagMatch t m && w.counting),
              countByte (s.countWatches fun _ w => w.tagMatch t m && w.isExpired)] })

/-- SUSPEND-TAGGED (R119). -/
def suspendTagged (t m : BitVec 11) (s : State) : State × Answer :=
  changeMatching (·.inService) (·.suspended) t m s

/-- RESUME-TAGGED (R120). -/
def resumeTagged (t m : BitVec 11) (s : State) : State × Answer :=
  changeMatching (·.state == .suspended) (·.resumed) t m s

/-- RETIRE-TAGGED (R121, R122). -/
def retireTagged (t m : BitVec 11) (s : State) : State × Answer :=
  (s.freeWatches fun _ w => w.tagMatch t m,
   { outcome := .ok, data := [countByte (s.countWatches fun _ w => w.tagMatch t m)] })

/-- COUNT-TAGGED (R123). -/
def countTagged (t m : BitVec 11) (s : State) : State × Answer :=
  (s, { outcome := .ok
        data := [countByte (s.countWatches fun _ w => w.tagMatch t m),
                 countByte (s.countWatches fun _ w => w.tagMatch t m && w.notice.isSome),
                 countByte (s.countWatches fun _ w => w.tagMatch t m && w.isExpired)] })

/-- The first slot a step of the walk examines (R126). -/
def WalkPosition.next : WalkPosition → Nat
  | .beforeFirst => 0
  | .reported i => i.val + 1
  | .ended => 64

/-- The answer of a step that finds no watch (R125, R126): handle 65535, owner and state 0. -/
def noWatchAnswer (outcome : OutcomeCode) : Answer :=
  { outcome := outcome, data := wordBytes Config.noHandle ++ [0#8, 0#8, 0#8] }

/-- One step of the walk (R126): the first live matching slot above the position, in ascending order. -/
def walkStep (q : Search) (s : State) : State × Answer :=
  match (List.finRange 64).find? fun i =>
      decide (q.position.next ≤ i.val) && s.selects (fun _ w => w.tagMatch q.tag q.mask) i with
  | none => ({ s with port := { s.port with cursor := some { q with position := .ended } } }, noWatchAnswer .empty)
  | some i =>
    ({ s with port := { s.port with cursor := some { q with position := .reported i } } },
     { outcome := .ok
       data := wordBytes (s.handleAt i) ++
         match s.watchAt i with
         | some w => wordBytes (w.settings.owner.setWidth 16) ++ [watchStateByte w.state]
         | none => [0#8, 0#8, 0#8] })

/-- FIND-FIRST (R125). -/
def findFirst (tag mask : Word) (s : State) : State × Answer :=
  match tagOf tag, tagOf mask with
  | some t, some m => walkStep { tag := t, mask := m, position := .beforeFirst } s
  | _, _ => (s, noWatchAnswer .badArg)

/-- FIND-NEXT (R126). -/
def findNext (s : State) : State × Answer :=
  match s.port.cursor with
  | none => (s, noWatchAnswer .empty)
  | some q => walkStep q s

/-- The meaning of RENEW_TAGGED. -/
def execRenewTagged (tag mask : Word) (s : State) : StepOutcome :=
  takeRequest (Instr.renewTagged tag mask).requestBytes (tagged tag mask 2 renewTagged) s

/-- The meaning of SUSPEND_TAGGED. -/
def execSuspendTagged (tag mask : Word) (s : State) : StepOutcome :=
  takeRequest (Instr.suspendTagged tag mask).requestBytes (tagged tag mask 1 suspendTagged) s

/-- The meaning of RESUME_TAGGED. -/
def execResumeTagged (tag mask : Word) (s : State) : StepOutcome :=
  takeRequest (Instr.resumeTagged tag mask).requestBytes (tagged tag mask 1 resumeTagged) s

/-- The meaning of RETIRE_TAGGED. -/
def execRetireTagged (tag mask : Word) (s : State) : StepOutcome :=
  takeRequest (Instr.retireTagged tag mask).requestBytes (tagged tag mask 1 retireTagged) s

/-- The meaning of COUNT_TAGGED. -/
def execCountTagged (tag mask : Word) (s : State) : StepOutcome :=
  takeRequest (Instr.countTagged tag mask).requestBytes (tagged tag mask 3 countTagged) s

/-- The meaning of FIND_FIRST. -/
def execFindFirst (tag mask : Word) (s : State) : StepOutcome :=
  takeRequest (Instr.findFirst tag mask).requestBytes (findFirst tag mask) s

/-- The meaning of FIND_NEXT. -/
def execFindNext (s : State) : StepOutcome := takeRequest Instr.findNext.requestBytes findNext s

end Sys2Proof.Machine
end

