-- ==== Sys2Proof/Machine/Watches.lean ====
section
/-! DEFINITION. The requests on one watch and on the whole table: CREATE, AMEND, RETIRE, RENEW, SUSPEND, RESUME,
WATCH-STATUS and RESET-TABLE (R21, R85, R95 to R113). -/

namespace Sys2Proof.Machine

/-- The band kinds (R4). -/
def WatchKind.isBand : WatchKind → Bool
  | .outside => true
  | .inside => true
  | .above => false
  | .below => false
  | .delta => false

/-- The settings that CREATE and AMEND write from the buffer: level B only for the band kinds (R4, R98). -/
def ComposeBuffer.toSettings (b : ComposeBuffer) : Settings :=
  { owner := b.owner, channel := b.channel, kind := b.kind, levelA := b.levelA,
    levelB := if b.kind.isBand then some b.levelB else none,
    hysteresis := b.hysteresis, dwell := b.dwell, step := b.step, priority := b.priority, lease := b.lease }

/-- Validation (R95): the failing field of the first check that fails, or none for a valid record. -/
def State.failingField (s : State) : Option Byte :=
  let b := s.compose
  let a := b.levelA.toNat
  let l := b.levelB.toNat
  if !s.channels[b.channel].enabled then some 1#8
  else if channelMax b.channel < a then some 3#8
  else if b.kind.isBand && (decide (channelMax b.channel < l) || decide (l ≤ a)) then some 4#8
  else if b.kind == .outside && decide (l < a + 2 * b.hysteresis.toNat) then some 5#8
  else none

/-- The watch that CREATE makes from the buffer (R98). -/
def ComposeBuffer.newWatch (b : ComposeBuffer) : Watch :=
  { settings := b.toSettings
    state := if b.startSuspended then .suspended else .arming
    dwellCount := 0
    leaseRemaining := b.lease
    lastValue := none
    reference := none
    faultMark := false
    notice := none }

/-- CREATE (R98). -/
def create (s : State) : State × Answer :=
  match s.failingField with
  | some field => (s, { outcome := .badRecord, data := wordBytes Config.noHandle ++ [field] })
  | none =>
    match s.lowestFree with
    | none => (s, { outcome := .noSlot, data := wordBytes Config.noHandle ++ [0#8] })
    | some i =>
      (s.fillSlot i s.compose.newWatch, { outcome := .ok, data := wordBytes (s.handleAt i) ++ [0#8] })

/-- The state of a watch after an AMEND that keeps its channel and kind (R103). -/
def keptState : WatchState → WatchState
  | .arming => .arming
  | .quiet => .quiet
  | .qualifying => .quiet
  | .tripped => .tripped
  | .suspended => .suspended
  | .expired => .expired

/-- The state of a watch after a re-arming AMEND (R102). -/
def rearmedState : WatchState → WatchState
  | .arming => .arming
  | .quiet => .arming
  | .qualifying => .arming
  | .tripped => .arming
  | .suspended => .suspended
  | .expired => .expired

/-- A watch amended with new settings: the lease is reloaded, and a change of channel or kind re-arms (R101, R102, R103). -/
def Watch.amended (w : Watch) (t : Settings) : Watch :=
  if t.channel = w.settings.channel ∧ t.kind = w.settings.kind then
    { w with settings := t, leaseRemaining := t.lease, state := keptState w.state, dwellCount := 0 }
  else
    { w.forgotten with settings := t, leaseRemaining := t.lease, state := rearmedState w.state }

/-- AMEND (R100, R101). -/
def amend (handle : Word) (s : State) : State × Answer :=
  match s.lookup handle with
  | .error o => (s, zeroAnswer o 4)
  | .ok (i, w) =>
    if w.isExpired then (s, zeroAnswer .expired 4)
    else
      match s.failingField with
      | some field => (s, { outcome := .badRecord, data := [field, 0#8, 0#8, 0#8] })
      | none =>
        let u := w.amended s.compose.toSettings
        (s.setWatch i u, { outcome := .ok, data := 0#8 :: watchStateByte u.state :: wordBytes u.leaseRemaining })

/-- RETIRE (R106). -/
def retire (handle : Word) (s : State) : State × Answer :=
  match s.lookup handle with
  | .error o => (s, zeroAnswer o 1)
  | .ok (i, w) => (s.freeWatches (fun j _ => j == i), { outcome := .ok, data := [pendingKindByte w.notice] })

/-- RENEW (R85). -/
def renew (handle : Word) (s : State) : State × Answer :=
  match s.lookup handle with
  | .error o => (s, zeroAnswer o 2)
  | .ok (i, w) =>
    if w.isExpired then (s, zeroAnswer .expired 2)
    else if w.counting then
      (s.setWatch i w.reload, { outcome := .ok, data := wordBytes w.settings.lease })
    else (s, zeroAnswer .ok 2)

/-- SUSPEND (R108). -/
def suspend (handle : Word) (s : State) : State × Answer :=
  match s.lookup handle with
  | .error o => (s, zeroAnswer o 1)
  | .ok (i, w) =>
    if w.isExpired then (s, zeroAnswer .expired 1)
    else if w.inService then
      (s.setWatch i w.suspended, { outcome := .ok, data := [watchStateByte w.state] })
    else (s, { outcome := .ok, data := [watchStateByte w.state] })

/-- RESUME (R109). -/
def resume (handle : Word) (s : State) : State × Answer :=
  match s.lookup handle with
  | .error o => (s, zeroAnswer o 1)
  | .ok (i, w) =>
    if w.isExpired then (s, zeroAnswer .expired 1)
    else if w.inService then (s, { outcome := .ok, data := [watchStateByte w.state] })
    else (s.setWatch i w.resumed, { outcome := .ok, data := [watchStateByte w.state] })

/-- The thirteen data bytes of WATCH-STATUS (R21, R199). -/
def Watch.statusBytes (w : Watch) : List Byte :=
  watchStateByte w.state :: wordBytes (w.settings.owner.setWidth 16) ++
    [BitVec.ofNat 8 w.settings.channel.val, watchKindByte w.settings.kind, BitVec.ofNat 8 w.settings.priority.val,
     BitVec.ofNat 8 w.dwellCount] ++
    wordBytes w.leaseRemaining ++ wordBytes (w.lastValue.getD 0#16) ++
    [statusFlags w.lastValue.isSome w.faultMark, pendingKindByte w.notice]

/-- WATCH-STATUS (R21). -/
def watchStatus (handle : Word) (s : State) : State × Answer :=
  match s.lookup handle with
  | .error o => (s, zeroAnswer o 13)
  | .ok (_, w) => (s, { outcome := .ok, data := w.statusBytes })

/-- RESET-TABLE (R20, R111): every live slot FREE, the list emptied, the buffer at its defaults, the cursor at "no search". -/
def resetTable (s : State) : State × Answer :=
  ({ s.freeWatches (fun _ _ => true) with
      joined := []
      compose := ComposeBuffer.defaults
      port := { s.port with cursor := none } },
   { outcome := .ok, data := [countByte s.liveCount, countByte s.pendingCount] })

/-- The meaning of CREATE. -/
def execCreate (s : State) : StepOutcome := takeRequest Instr.create.requestBytes create s

/-- The meaning of AMEND. -/
def execAmend (handle : Word) (s : State) : StepOutcome :=
  takeRequest (Instr.amend handle).requestBytes (amend handle) s

/-- The meaning of RETIRE. -/
def execRetire (handle : Word) (s : State) : StepOutcome :=
  takeRequest (Instr.retire handle).requestBytes (retire handle) s

/-- The meaning of RENEW. -/
def execRenew (handle : Word) (s : State) : StepOutcome :=
  takeRequest (Instr.renew handle).requestBytes (renew handle) s

/-- The meaning of SUSPEND. -/
def execSuspend (handle : Word) (s : State) : StepOutcome :=
  takeRequest (Instr.suspend handle).requestBytes (suspend handle) s

/-- The meaning of RESUME. -/
def execResume (handle : Word) (s : State) : StepOutcome :=
  takeRequest (Instr.resume handle).requestBytes (resume handle) s

/-- The meaning of WATCH_STATUS. -/
def execWatchStatus (handle : Word) (s : State) : StepOutcome :=
  takeRequest (Instr.watchStatus handle).requestBytes (watchStatus handle) s

/-- The meaning of RESET_TABLE. -/
def execResetTable (s : State) : StepOutcome := takeRequest Instr.resetTable.requestBytes resetTable s

end Sys2Proof.Machine
end

