-- ==== Sys2Proof/Machine/Requests.lean ====
section
/-! DEFINITION. The recognition of a request from its bytes, and the arrival of one request byte (R189, R193, R196). -/

namespace Sys2Proof.Machine

/-- A request that the command port has recognized is handed to the block that owns the state concerned (R189). A command that is
no request is never recognized, and does nothing here. -/
def recognized (request : Instr) (s : State) : StepOutcome :=
  match request with
  | .composeClear => execComposeClear s
  | .composeWrite field value => execComposeWrite field value s
  | .composeRead field => execComposeRead field s
  | .load handle => execLoad handle s
  | .create => execCreate s
  | .amend handle => execAmend handle s
  | .retire handle => execRetire handle s
  | .renew handle => execRenew handle s
  | .suspend handle => execSuspend handle s
  | .resume handle => execResume handle s
  | .watchStatus handle => execWatchStatus handle s
  | .resetTable => execResetTable s
  | .renewTagged tag mask => execRenewTagged tag mask s
  | .suspendTagged tag mask => execSuspendTagged tag mask s
  | .resumeTagged tag mask => execResumeTagged tag mask s
  | .retireTagged tag mask => execRetireTagged tag mask s
  | .countTagged tag mask => execCountTagged tag mask s
  | .findFirst tag mask => execFindFirst tag mask s
  | .findNext => execFindNext s
  | .noticePeek => execNoticePeek s
  | .noticeTake => execNoticeTake s
  | .notifySet enable threshold => execNotifySet enable threshold s
  | .channelSet channel enabled edgeMode polarity rate gate => execChannelSet channel enabled edgeMode polarity rate gate s
  | .channelGet channel => execChannelGet channel s
  | .channelRead channel => execChannelRead channel s
  | .planSet mode single members priorities trigger resolution =>
    execPlanSet mode single members priorities trigger resolution s
  | .planGet => execPlanGet s
  | .start => execStart s
  | .stop => execStop s
  | .refOn => execRefOn s
  | .refOff => execRefOff s
  | .modeRequest target => execModeRequest target s
  | .summary => execSummary s
  | .timebaseSet period => execTimebaseSet period s
  | .timebaseGet => execTimebaseGet s
  | .unknownCode code => execUnknownCode code s
  | _ => .next s

/-- The meaning of REQUEST_BYTE_ARRIVAL (R189, R194, R196): in RECEIVING a byte that is not the last request byte is counted, and
the summary byte of the next byte is fixed; a byte that is the last request byte takes the request that the bytes spell, as that
request's own command does (log 4). In any other phase it is ignored (R191). -/
def execRequestByteArrival (byte : Byte) (s : State) : StepOutcome :=
  let bytes := s.port.received ++ [byte]
  if s.port.phase = .receiving then
    if bytes.length < frameLength bytes then
      .next { s with port := { s.port with received := bytes, miso := .summary s.summaryByte } }
    else
      match requestOf bytes with
      | some request => recognized request s
      | none => .next s
  else .next s

end Sys2Proof.Machine
end

