-- ==== Sys2Proof/Machine/Dispatch.lean ====
section
/-! DEFINITION. One arm for each command: the call of its meaning. -/

namespace Sys2Proof.Machine

def exec (i : Instr) (s : State) : Host.Outcome State Fault Refusal :=
  match i with
  | .composeClear => Sys2Proof.Machine.execComposeClear s
  | .composeWrite field value => Sys2Proof.Machine.execComposeWrite field value s
  | .composeRead field => Sys2Proof.Machine.execComposeRead field s
  | .load handle => Sys2Proof.Machine.execLoad handle s
  | .create => Sys2Proof.Machine.execCreate s
  | .amend handle => Sys2Proof.Machine.execAmend handle s
  | .retire handle => Sys2Proof.Machine.execRetire handle s
  | .renew handle => Sys2Proof.Machine.execRenew handle s
  | .suspend handle => Sys2Proof.Machine.execSuspend handle s
  | .resume handle => Sys2Proof.Machine.execResume handle s
  | .watchStatus handle => Sys2Proof.Machine.execWatchStatus handle s
  | .resetTable => Sys2Proof.Machine.execResetTable s
  | .renewTagged tag mask => Sys2Proof.Machine.execRenewTagged tag mask s
  | .suspendTagged tag mask => Sys2Proof.Machine.execSuspendTagged tag mask s
  | .resumeTagged tag mask => Sys2Proof.Machine.execResumeTagged tag mask s
  | .retireTagged tag mask => Sys2Proof.Machine.execRetireTagged tag mask s
  | .countTagged tag mask => Sys2Proof.Machine.execCountTagged tag mask s
  | .findFirst tag mask => Sys2Proof.Machine.execFindFirst tag mask s
  | .findNext => Sys2Proof.Machine.execFindNext s
  | .noticePeek => Sys2Proof.Machine.execNoticePeek s
  | .noticeTake => Sys2Proof.Machine.execNoticeTake s
  | .notifySet enable threshold => Sys2Proof.Machine.execNotifySet enable threshold s
  | .channelSet channel enabled edgeMode polarity rate gate => Sys2Proof.Machine.execChannelSet channel enabled edgeMode polarity rate gate s
  | .channelGet channel => Sys2Proof.Machine.execChannelGet channel s
  | .channelRead channel => Sys2Proof.Machine.execChannelRead channel s
  | .planSet mode single members priorities trigger resolution => Sys2Proof.Machine.execPlanSet mode single members priorities trigger resolution s
  | .planGet => Sys2Proof.Machine.execPlanGet s
  | .start => Sys2Proof.Machine.execStart s
  | .stop => Sys2Proof.Machine.execStop s
  | .refOn => Sys2Proof.Machine.execRefOn s
  | .refOff => Sys2Proof.Machine.execRefOff s
  | .modeRequest target => Sys2Proof.Machine.execModeRequest target s
  | .summary => Sys2Proof.Machine.execSummary s
  | .timebaseSet period => Sys2Proof.Machine.execTimebaseSet period s
  | .timebaseGet => Sys2Proof.Machine.execTimebaseGet s
  | .unknownCode code => Sys2Proof.Machine.execUnknownCode code s
  | .csnFall => Sys2Proof.Machine.execCsnFall s
  | .csnRise => Sys2Proof.Machine.execCsnRise s
  | .noticeTakeRemoval => Sys2Proof.Machine.execNoticeTakeRemoval s
  | .conversionCompletion result => Sys2Proof.Machine.execConversionCompletion result s
  | .settleEvent => Sys2Proof.Machine.execSettleEvent s
  | .trigFallingEdge => Sys2Proof.Machine.execTrigFallingEdge s
  | .activeEdge input elapsed => Sys2Proof.Machine.execActiveEdge input elapsed s
  | .oppositeEdge input elapsed => Sys2Proof.Machine.execOppositeEdge input elapsed s
  | .overflow input => Sys2Proof.Machine.execOverflow input s
  | .stall input => Sys2Proof.Machine.execStall input s
  | .intervalExpiry => Sys2Proof.Machine.execIntervalExpiry s
  | .leaseExpiry slot => Sys2Proof.Machine.execLeaseExpiry slot s
  | .windowEnd input => Sys2Proof.Machine.execWindowEnd input s
  | .modeChangeCarriedOut => Sys2Proof.Machine.execModeChangeCarriedOut s
  | .deviceReset cause => Sys2Proof.Machine.execDeviceReset cause s
  | .rstnRise => Sys2Proof.Machine.execRstnRise s
  | .requestByteArrival byte => Sys2Proof.Machine.execRequestByteArrival byte s
  | .lastResultByteEnd => Sys2Proof.Machine.execLastResultByteEnd s

end Sys2Proof.Machine
end

