-- ==== Sys2Proof/Safety.lean ====
section
/-! DEFINITION. The invariants of the device, and the words in which statements say what a command changes and what it
leaves alone. -/

namespace Sys2Proof.Machine

/-! ## The watch table and the pending list -/

/-- A watch whose settings and live fields agree as R3, R4, R6, R8, R13, R14 and R43 say. -/
structure Watch.Sound (w : Watch) : Prop where
  dwellRange : 1 ≤ w.settings.dwell ∧ w.settings.dwell ≤ 64
  stepRange : w.settings.step ≠ 0#16
  bandLevel : w.settings.levelB.isSome = w.settings.kind.isBand
  dwellCount : if w.state = .qualifying then 1 ≤ w.dwellCount ∧ w.dwellCount < w.settings.dwell else w.dwellCount = 0
  leaseCount :
    if w.state = .expired then w.settings.lease ≠ 0#16 ∧ w.leaseRemaining = 0#16
    else w.leaseRemaining.toNat ≤ w.settings.lease.toNat ∧
      (w.settings.lease ≠ 0#16 → w.leaseRemaining ≠ 0#16)
  expiredNotice : w.state = .expired ↔ w.notice.map (·.kind) = some .expiry
  neverTrippedDelta : w.settings.kind = .delta → w.state ≠ .tripped
  referenceOfDelta : w.reference ≠ none → w.settings.kind = .delta
  armingHistory : w.state = .arming → w.reference = none ∧ w.lastValue = none
  judgedReference : w.settings.kind = .delta → w.state = .quiet ∨ w.state = .qualifying → w.reference ≠ none

/-- The watch table, the pending list and the compose buffer agree (R3, R6, R11, R13, R51, R90). -/
structure State.TableSound (s : State) : Prop where
  watches : ∀ i w, s.watchAt i = some w → w.Sound
  joinedOnce : s.joined.Nodup
  listed : ∀ i, i ∈ s.joined ↔ ∃ w, s.watchAt i = some w ∧ w.notice ≠ none
  bufferDwell : 1 ≤ s.compose.dwell ∧ s.compose.dwell ≤ 64
  bufferStep : s.compose.step ≠ 0#16

/-! ## Channels, watches and the plan -/

/-- Levels that lie within the channel's range, with a band wide enough for its kind (R5). -/
def Settings.Fits (t : Settings) : Prop :=
  t.levelA.toNat ≤ channelMax t.channel ∧
    (t.kind.isBand = true →
      (t.levelB.getD 0#16).toNat ≤ channelMax t.channel ∧ t.levelA.toNat < (t.levelB.getD 0#16).toNat) ∧
    (t.kind = .outside → t.levelA.toNat + 2 * t.hysteresis.toNat ≤ (t.levelB.getD 0#16).toNat)

/-- Every live watch names an enabled channel with fitting levels (R5), an accepted plan converts only enabled channels of ANALOG
or SUPPLY kind (R135, R147), and the latest value of the supply is its reset value or lies in the working range (R131,
R200). -/
structure State.ChannelsSound (s : State) : Prop where
  named : ∀ i w, s.watchAt i = some w → s.channels[w.settings.channel].enabled = true ∧ w.settings.Fits
  planned : s.plan.accepted = true → ∀ c ∈ s.plan.cycle, s.channels[c].enabled = true ∧ c ≠ 12 ∧ c ≠ 13
  supply : s.channels[(14 : ChannelId)].latest = 0#16 ∨
    (1350 ≤ s.channels[(14 : ChannelId)].latest.toNat ∧ s.channels[(14 : ChannelId)].latest.toNat ≤ 2750)

/-! ## The sweep engine, the reference, the edge channels, the time base and the mode -/

/-- The measuring blocks follow the mode and each other (R145, R152, R163, R164, R177, R178). -/
structure State.EngineSound (s : State) : Prop where
  running : s.engine ≠ .idle → s.mode = .run ∧ s.reference ≠ .off ∧ s.plan.accepted = true
  waiting : s.engine = .waitRef → s.reference = .settling
  armed : s.engine = .armed → s.plan.trigger = .pin
  converting : s.engine = .converting → s.reference = .ready ∧ s.position < s.plan.cycle.length
  resting : s.engine ≠ .converting → s.position = 0
  cycle : s.plan.accepted = true → s.plan.cycle ≠ []
  change : s.requested ≠ none → s.mode = .run ∧ (s.engine = .converting ∨ s.engine = .idle)
  clock : s.timeBase.countdown.isSome = decide (s.mode ≠ .config)
  unmeasured : ∀ e, s.mode ≠ .run ∨ s.channels[edgeChannel e].enabled = false →
    s.edges.get e = EdgeRecord.stopped
  counting : ∀ e, (s.edges.get e).state ≠ .measuring →
    (s.edges.get e).count = 0#16 ∧ (s.edges.get e).gateCountdown = 0#8 ∧ (s.edges.get e).windowDue = none
  windows : ∀ e, (s.edgeSettings.get e).mode ≠ .count →
    (s.edges.get e).gateCountdown = 0#8 ∧ (s.edges.get e).windowDue = none

/-! ## The command port -/

/-- The port's phase decides what MISO carries; a take claim stands only while a NOTICE-TAKE is answered, and then names a
slot of its generation that is in the pending list (R61, R190, R191, R194). -/
structure State.PortSound (s : State) : Prop where
  idle : s.port.phase = .idle → s.port.received = [] ∧ s.port.miso = .released
  receiving : s.port.phase = .receiving → (∃ b, s.port.miso = .summary b) ∧
    (s.port.received = [] ∨ s.port.received.length < frameLength s.port.received)
  answering : s.port.phase = .answering → ∃ bytes, s.port.miso = .result bytes
  silent : s.port.phase = .trailing ∨ s.port.phase = .held → s.port.miso = .zero
  claimed : ∀ c, s.port.claim = some c →
    s.port.answersTake = true ∧ s.generationAt c.slot = c.generation ∧ c.slot ∈ s.joined

/-! ## The hold at reset values -/

/-- While RSTn is low or the supply below its range, the device stays at its reset values, but for the pins themselves, the
queue, and a port that is IDLE or HELD (R185, R200). -/
def State.HeldSound (s : State) : Prop :=
  s.held = true →
    s = { State.reset with port := s.port, rstnLow := s.rstnLow, supplyLow := s.supplyLow, pending := s.pending } ∧
    (s.port = State.reset.port ∨ s.port = { State.reset.port with phase := .held, miso := .zero })

/-! ## What statements say of a command -/

/-- The request `c` is answered in `s`: the next state `t` is ANSWERING with the outcome's byte and the data on MISO (R189,
R190). -/
structure Answered (c : Instr) (s t : State) (outcome : OutcomeCode) (data : List Byte) : Prop where
  next : exec c s = .next t
  answering : t.port.phase = .answering
  received : t.port.received = c.requestBytes
  result : t.port.miso = .result (outcomeByte outcome :: data)

/-- The request `c` is answered with the take claim and the cursor as they were. -/
structure Takes (c : Instr) (s t : State) (outcome : OutcomeCode) (data : List Byte) : Prop
    extends Answered c s t outcome data where
  claim : t.port.claim = s.port.claim
  cursor : t.port.cursor = s.port.cursor

/-- In `s` the command `c` stands for request `r`: it is the request's command, or the arrival of the request's last byte (R189). -/
def IsRequest (r c : Instr) (s : State) : Prop :=
  c = r ∨ ∃ byte, c = .requestByteArrival byte ∧ s.port.phase = .receiving ∧ s.port.received ++ [byte] = r.requestBytes

/-- How many live watches satisfy `p` (R2). -/
def State.liveCountOf (p : Watch → Bool) (s : State) : Nat := ((List.finRange 64).filter fun i => (s.watchAt i).any p).length

/-- Nothing but the port differs between `s` and `t`. -/
def SameButPort (s t : State) : Prop := { t with port := s.port } = s

/-- Of all but the port, only the watch of live slot `i` differs: it is `w` in `t`. -/
structure OnlyWatch (i : SlotId) (w : Watch) (s t : State) : Prop where
  rest : { t with port := s.port, slots := s.slots } = s
  generations : ∀ j, t.generationAt j = s.generationAt j
  watch : t.watchAt i = some w
  others : ∀ j, j ≠ i → t.watchAt j = s.watchAt j

/-- Of all but the port, only the live watches differ: each becomes what `f` makes of it. -/
structure OnlyWatches (f : Watch → Watch) (s t : State) : Prop where
  rest : { t with port := s.port, slots := s.slots } = s
  generations : ∀ j, t.generationAt j = s.generationAt j
  watches : ∀ j, t.watchAt j = (s.watchAt j).map f

/-- Of all but the port, exactly the slots that `p` selects are freed: each advances its generation and leaves the pending
list, and the others keep their watches, their generations and their order of joining (R16, R57). -/
structure OnlyFreed (p : SlotId → Watch → Bool) (s t : State) : Prop where
  rest : { t with port := s.port, slots := s.slots, joined := s.joined } = s
  joined : t.joined = s.joined.filter fun i => !(s.watchAt i).any (p i)
  freed : ∀ i, (s.watchAt i).any (p i) = true → t.watchAt i = none ∧ t.generationAt i = s.generationAt i + 1#4
  kept : ∀ i, (s.watchAt i).any (p i) = false → t.watchAt i = s.watchAt i ∧ t.generationAt i = s.generationAt i

/-- What an event at the watch table makes of the table and the list when every live watch is judged by `f`: the postings
join in ascending slot order or replace in place, and a posting to the claimed watch cancels the claim (R24, R52, R53, R62). -/
structure Judged (f : SlotId → Watch → Judgement) (s t : State) : Prop where
  generations : ∀ i, t.generationAt i = s.generationAt i
  watches : ∀ i, t.watchAt i = (s.watchAt i).map fun w => (f i w).posted
  joined : t.joined = s.joined ++
    (List.finRange 64).filter fun i => (s.watchAt i).any fun w => (f i w).posting.isSome && w.notice.isNone
  claim : t.port.claim = s.port.claim.filter fun c => !(s.watchAt c.slot).any fun w => (f c.slot w).posting.isSome

/-- The sample arrival (R22, R138): the entry of channel `c` records the sample, the watches on it are evaluated, and of the
rest only the fields named in `rest` may differ. -/
structure Arrives (c : ChannelId) (v : Word) (faulted : Bool) (s t : State) : Prop where
  entry : t.channels[c] =
    { s.channels[c] with latest := v, sequence := s.channels[c].sequence + 1#8, fresh := true, faultMark := faulted }
  otherEntries : ∀ d, d ≠ c → t.channels[d] = s.channels[d]
  table : Judged (fun _ w => evaluate c v faulted w) s t

/-- What carrying out a change to mode `m` makes of `s` (R77, R164, R173, R180, R181, R183): the engine IDLE at position 0, the
edge channels stopped or started afresh, the time base loaded on leaving CONFIG and stopped on entering it, no change
pending, and nothing else. -/
structure ModeEntered (m : Mode) (s t : State) : Prop where
  mode : t.mode = m
  requested : t.requested = none
  engine : t.engine = .idle ∧ t.position = 0
  edges : ∀ e, t.edges.get e =
    { state := if m = .run ∧ s.channels[edgeChannel e].enabled = true then .waiting else .idle
      count := 0#16, gateCountdown := 0#8, windowDue := none }
  timeBase : t.timeBase =
    if m = .config then { s.timeBase with countdown := none }
    else if s.mode = .config then
      { s.timeBase with periodInEffect := s.timeBase.periodSetting, countdown := some s.timeBase.periodSetting }
    else s.timeBase
  rest : { t with mode := s.mode, requested := s.requested, engine := s.engine, position := s.position,
                  edges := s.edges, timeBase := s.timeBase } = s

/-- Some live watch names channel `c` (R133). -/
def State.Named (s : State) (c : ChannelId) : Prop := ∃ i w, s.watchAt i = some w ∧ w.settings.channel = c

/-- The accepted plan converts channel `c` (R133). -/
def State.Contained (s : State) (c : ChannelId) : Prop := s.plan.accepted = true ∧ c ∈ s.plan.cycle

/-- One after another, the commands of a list as events of their own. -/
def runAll : List Instr → State → StepOutcome
  | [], s => .next s
  | c :: rest, s =>
    match exec c s with
    | .next t => runAll rest t
    | .fault f => .fault f
    | .refused r => .refused r

end Sys2Proof.Machine
end

