-- ==== Sys2Proof/WellFormed.lean ====
section
/-! DEFINITION. Which commands are well formed. Every operand but one may take every value of its type:
the device itself checks arguments and answers BAD_ARG (R195). -/

namespace Sys2Proof

/-- A command is well formed unless it is UNKNOWN_CODE with a code that the request table lists (R193). -/
def Instr.wellFormed : Instr → Bool
  | .unknownCode code => (requestRow code).isNone
  | _ => true

end Sys2Proof
end

