-- ==== Sys2Proof/Certificates/Slice0/Obligations.lean ====
section
/-! DEFINITION. The statements for the provers. `s.port.awaits c.requestBytes` says that the port is RECEIVING and that the
bytes of request `c` go on from the bytes received (R189, log 3). -/

open Sys2Proof Sys2Proof.Machine

/-! ## The machine and the frame -/

/-- A step carries out the command at the front of the queue on the state with the queue's rest; on an empty queue the block
idles (the model's choice, log 1). -/
def Obligations.StepTakesFrontOfQueue : Prop :=
  (∀ (s : State) (c : Instr) (rest : List Instr), s.pending = c :: rest → step s = exec c { s with pending := rest }) ∧
  (∀ s : State, s.pending = [] → step s = .next s)

/-- Every command answers a next state in every state, and leaves the queue as it is. That no command stops the block is log 16, that
one which cannot come goes on all the same is log 2, and that the queue stays, through DEVICE_RESET too, is the model's choice
of log 1. -/
def Obligations.EveryCommandAnswersNext : Prop :=
  ∀ (c : Instr) (s : State), ∃ t, exec c s = .next t ∧ t.pending = s.pending

/-- Every request taken is answered, and the number of its result bytes is the one the request table gives, whatever its
outcome (R190, R196). -/
def Obligations.ResultLengthIsFixed : Prop :=
  ∀ (c : Instr) (s : State), c.wellFormed = true → s.port.awaits c.requestBytes = true →
    ∃ t bytes code rest, exec c s = .next t ∧ c.requestBytes = code :: rest ∧ t.port.phase = .answering ∧
      t.port.miso = .result bytes ∧
      bytes.length = 1 + (match requestRow code with | some r => r.data | none => 0)

/-- A request answered with any outcome but OK, ACCEPTED and EMPTY has changed nothing (R195). -/
def Obligations.RefusedRequestsChangeNothing : Prop :=
  ∀ (c : Instr) (s t : State) (b : Byte) (data : List Byte), s.port.awaits c.requestBytes = true →
    exec c s = .next t → t.port.miso = .result (b :: data) →
    b ≠ outcomeByte .ok → b ≠ outcomeByte .accepted → b ≠ outcomeByte .empty →
    SameButPort s t ∧ t.port.claim = s.port.claim ∧ t.port.cursor = s.port.cursor

/-- Chip select, the counted request bytes and the end of a result move the frame as R191 tabulates; a request whose bytes
arrive in IDLE, ANSWERING, TRAILING or HELD is ignored (R189). The model fixes the summary byte of the next byte in the step that
counts a byte, half an SCK period before R194 does (the model's choice, log 4), and LAST_RESULT_BYTE_END ends the result of every
request but NOTICE-TAKE, in whose frame it changes nothing (log 13). -/
def Obligations.FramePhasesMove : Prop :=
  (∀ (c : Instr) (s : State), c.requestBytes ≠ [] → s.port.phase ≠ .receiving → exec c s = .next s) ∧
  (∀ (s : State) (b : Byte), s.port.phase ≠ .receiving → exec (.requestByteArrival b) s = .next s) ∧
  (∀ s : State, s.port.phase = .idle → s.held = false →
    exec .csnFall s =
      .next { s with port := { s.port with phase := .receiving, received := [], miso := .summary s.summaryByte } }) ∧
  (∀ s : State, s.port.phase = .idle → s.held = true →
    exec .csnFall s = .next { s with port := { s.port with phase := .held, received := [], miso := .zero } }) ∧
  (∀ s : State, s.port.phase ≠ .idle →
    exec .csnRise s =
      .next { s with port := { s.port with phase := .idle, received := [], miso := .released, claim := none } }) ∧
  (∀ (s : State) (b code : Byte) (rest : List Byte), s.port.phase = .receiving → s.port.received ++ [b] = code :: rest →
    (code :: rest).length < requestLength code →
    exec (.requestByteArrival b) s =
      .next { s with port := { s.port with received := code :: rest, miso := .summary s.summaryByte } }) ∧
  (∀ s : State, s.port.phase = .answering → s.port.received ≠ [0x42#8] →
    exec .lastResultByteEnd s = .next { s with port := { s.port with phase := .trailing, miso := .zero } }) ∧
  (∀ s : State, s.port.received = [0x42#8] → exec .lastResultByteEnd s = .next s)

/-- A code that the request table does not list is taken at its code byte and answered UNKNOWN with no data bytes, and changes
nothing; 0x00 and 0xFF are such codes. Bytes and requests that follow it are ignored, and after the outcome byte MISO reads 0
(R193). -/
def Obligations.UnknownCodeAnswersUnknown : Prop :=
  (∀ (s : State) (code : Byte), requestRow code = none → s.port.phase = .receiving → s.port.received = [] →
    ∃ t, Takes (.unknownCode code) s t .unknown [] ∧ SameButPort s t ∧
      (∀ b, exec (.requestByteArrival b) t = .next t) ∧ (∀ c : Instr, c.requestBytes ≠ [] → exec c t = .next t) ∧
      exec .lastResultByteEnd t = .next { t with port := { t.port with phase := .trailing, miso := .zero } }) ∧
  requestRow 0x00#8 = none ∧ requestRow 0xFF#8 = none ∧ requestTable.length = 35

/-- A request whose bytes arrive one by one ends in the same state as the request command alone, whether its last byte arrives as a
byte or as the command (R189; the readings of logs 3 and 4). The frame awaits a request when it is RECEIVING and the request's
bytes go on from those received. -/
def Obligations.BytewiseRequestEqualsCommand : Prop :=
  (∀ (c : Instr) (s : State), c.wellFormed = true → c.requestBytes ≠ [] → s.port.phase = .receiving → s.port.received = [] →
    runAll (c.requestBytes.map .requestByteArrival) s = exec c s ∧
    runAll (c.requestBytes.dropLast.map .requestByteArrival ++ [c]) s = exec c s) ∧
  (∀ (s : State) (request : List Byte), s.port.awaits request = true ↔
    s.port.phase = .receiving ∧ ∃ rest, rest ≠ [] ∧ request = s.port.received ++ rest)

/-- The command port recognizes each request of the request table from its code and its argument bytes, two-byte arguments with the
most significant byte first, and hands it on when its last byte arrives (R189, R196); a code that is not listed is recognized
alone (R193). Other bytes spell no request. That REQUEST_BYTE_ARRIVAL may bring the last byte is log 4. -/
def Obligations.CommandPortRecognizesRequests : Prop :=
  (∀ c : Instr, c.wellFormed = true → c.requestBytes ≠ [] → requestOf c.requestBytes = some c) ∧
  (∀ (bytes : List Byte) (c : Instr), requestOf bytes = some c → c.requestBytes = bytes ∧ c.wellFormed = true) ∧
  (∀ (s : State) (b : Byte) (c : Instr), c.wellFormed = true → s.port.phase = .receiving →
    s.port.received ++ [b] = c.requestBytes → exec (.requestByteArrival b) s = exec c s) ∧
  (requestTable.map fun r => (r.code.toNat, r.arguments, r.data)) =
    [(0x11, 0, 0), (0x12, 3, 3), (0x13, 1, 3), (0x14, 2, 1), (0x21, 0, 3), (0x22, 2, 4), (0x23, 2, 1), (0x24, 2, 2),
     (0x25, 2, 1), (0x26, 2, 1), (0x27, 2, 13), (0x28, 0, 2), (0x31, 4, 2), (0x32, 4, 1), (0x33, 4, 1), (0x34, 4, 1),
     (0x35, 4, 3), (0x36, 4, 5), (0x37, 0, 5), (0x41, 0, 9), (0x42, 0, 9), (0x43, 2, 2), (0x51, 6, 6), (0x52, 1, 6),
     (0x53, 1, 4), (0x61, 8, 1), (0x62, 0, 10), (0x63, 0, 1), (0x64, 0, 1), (0x65, 0, 1), (0x66, 0, 1), (0x71, 1, 2),
     (0x72, 0, 12), (0x73, 2, 4), (0x74, 0, 4)] ∧
  (∀ code : Byte, requestRow code = requestTable.find? (fun r => r.code == code) ∧
    requestLength code = (match requestRow code with | some r => r.arguments + 1 | none => 1)) ∧
  ([Instr.composeClear, .create, .resetTable, .findNext, .noticePeek, .noticeTake, .planGet, .start, .stop, .refOn, .refOff,
      .summary, .timebaseGet].map Instr.requestBytes =
    [[0x11#8], [0x21#8], [0x28#8], [0x37#8], [0x41#8], [0x42#8], [0x62#8], [0x63#8], [0x64#8], [0x65#8], [0x66#8], [0x72#8],
     [0x74#8]]) ∧
  (∀ a b : Byte, [Instr.composeRead a, .channelGet a, .channelRead a, .modeRequest a, .notifySet a b, .unknownCode a].map
      Instr.requestBytes = [[0x13#8, a], [0x52#8, a], [0x53#8, a], [0x71#8, a], [0x43#8, a, b], [a]]) ∧
  (∀ w : Word, [Instr.load w, .amend w, .retire w, .renew w, .suspend w, .resume w, .watchStatus w, .timebaseSet w].map
      Instr.requestBytes =
    [0x14#8, 0x22#8, 0x23#8, 0x24#8, 0x25#8, 0x26#8, 0x27#8, 0x73#8].map fun code => code :: wordBytes w) ∧
  (∀ t m : Word, [Instr.renewTagged t m, .suspendTagged t m, .resumeTagged t m, .retireTagged t m, .countTagged t m,
      .findFirst t m].map Instr.requestBytes =
    [0x31#8, 0x32#8, 0x33#8, 0x34#8, 0x35#8, 0x36#8].map fun code => code :: (wordBytes t ++ wordBytes m)) ∧
  (∀ (a b c d e f : Byte) (v w : Word),
    (Instr.composeWrite a v).requestBytes = [0x12#8, a] ++ wordBytes v ∧
    (Instr.channelSet a b c d e f).requestBytes = [0x51#8, a, b, c, d, e, f] ∧
    (Instr.planSet a b v w e f).requestBytes = [0x61#8, a, b] ++ wordBytes v ++ wordBytes w ++ [e, f])

/-! ## Handles, slots and generations -/

/-- A handle is generation × 64 + slot, 0 to 1023, and names its slot and its generation again (R15, R197). Two-byte values go most
significant byte first (R196). The named values, outcomes, channel kinds and channel maxima have the codes of R195, R197, R134,
R137, R146, R130 and R95; the flag bytes and the summary byte have the bits of R197 to R199. -/
def Obligations.FieldsAreCarriedInTheirForms : Prop :=
  (∀ (g : BitVec 4) (i : SlotId), (makeHandle g i).toNat = g.toNat * 64 + i.val ∧ (makeHandle g i).toNat ≤ 1023 ∧
    handleSlot (makeHandle g i) = i ∧ handleGeneration (makeHandle g i) = g) ∧
  (∀ h : Word, h.toNat ≤ 1023 → makeHandle (handleGeneration h) (handleSlot h) = h) ∧
  (∀ (s : State) (i : SlotId), s.handleAt i = makeHandle (s.generationAt i) i) ∧
  (∀ w : Word, ∃ high low, wordBytes w = [high, low] ∧ w.toNat = high.toNat * 256 + low.toNat) ∧
  [OutcomeCode.ok, .accepted, .empty, .stale, .noSlot, .badRecord, .badArg, .wrongMode, .busy, .expired, .inUse, .noRef,
    .unknown].map (fun o => (outcomeByte o).toNat) = [0, 1, 2, 3, 4, 5, 6, 7, 8, 9, 10, 11, 12] ∧
  [WatchState.arming, .quiet, .qualifying, .tripped, .suspended, .expired].map watchStateByte =
    [1#8, 2#8, 3#8, 4#8, 5#8, 6#8] ∧
  [NoticeKind.trip, .clear, .step, .fault, .expiry].map noticeKindByte = [1#8, 2#8, 3#8, 4#8, 5#8] ∧
  [WatchKind.above, .below, .outside, .inside, .delta].map watchKindByte = [0#8, 1#8, 2#8, 3#8, 4#8] ∧
  [Mode.config, .run, .hold].map modeByte = [0#8, 1#8, 2#8] ∧
  [EngineState.idle, .armed, .waitRef, .converting].map engineByte = [0#8, 1#8, 2#8, 3#8] ∧
  [ReferenceState.off, .settling, .ready].map referenceByte = [0#8, 1#8, 2#8] ∧
  [ChannelKind.analog, .edge, .supply].map channelKindByte = [0#8, 1#8, 2#8] ∧
  [EdgeMode.width, .period, .count].map edgeModeByte = [0#8, 1#8, 2#8] ∧
  [Polarity.rising, .falling].map polarityByte = [0#8, 1#8] ∧
  [MeasureRate.us1, .us8, .us64, .us512].map measureRateByte = [0#8, 1#8, 2#8, 3#8] ∧
  [PlanMode.one, .pass, .loop, .priorityLoop].map planModeByte = [0#8, 1#8, 2#8, 3#8] ∧
  [Trigger.command, .pin].map triggerByte = [0#8, 1#8] ∧ [Resolution.full, .fast].map resolutionByte = [0#8, 1#8] ∧
  [false, true].map flagByte = [0#8, 1#8] ∧ (∀ n : Nat, n < 256 → (countByte n).toNat = n) ∧
  (∀ c : ChannelId, channelKind c = (if c = 12 ∨ c = 13 then .edge else if c = 14 then .supply else .analog) ∧
    channelMax c = (if c = 12 ∨ c = 13 then 65535 else 4095)) ∧
  edgeChannel .edg0 = 12 ∧ edgeChannel .edg1 = 13 ∧
  (∀ a b : Bool, ∀ x ∈ [channelFlags a b, noticeFlags a b, statusFlags a b],
    x.getLsbD 0 = a ∧ x.getLsbD 1 = b ∧ ∀ k, 2 ≤ k → x.getLsbD k = false) ∧
  ∀ s : State,
    s.summaryByte.extractLsb' 6 2 = (match s.mode with | .config => 0#2 | .run => 1#2 | .hold => 2#2) ∧
    s.summaryByte.getLsbD 5 = s.requested.isSome ∧ (s.summaryByte.getLsbD 4 = true ↔ s.reference = .ready) ∧
    (s.summaryByte.getLsbD 3 = true ↔ s.engine ≠ .idle) ∧ (s.summaryByte.getLsbD 2 = true ↔ s.joined ≠ []) ∧
    s.summaryByte.getLsbD 1 = s.notifyAsserted ∧ s.summaryByte.getLsbD 0 = s.triggerOverrun

/-- Each handle request answers BAD_ARG for a handle above 1023, and STALE for a handle whose slot is FREE or holds another
generation, with 0 in every data byte and no change (R17). -/
def Obligations.HandleRequestsCheckHandle : Prop :=
  ∀ (s : State) (h : Word) (c : Instr) (n : Nat),
    (c, n) ∈ [(Instr.load h, 1), (.amend h, 4), (.retire h, 1), (.renew h, 2), (.suspend h, 1), (.resume h, 1),
      (.watchStatus h, 13)] →
    s.port.awaits c.requestBytes = true →
    (1023 < h.toNat → ∃ t, Takes c s t .badArg (List.replicate n 0#8) ∧ SameButPort s t) ∧
    (∀ (g : BitVec 4) (i : SlotId), h = makeHandle g i → (s.watchAt i = none ∨ s.generationAt i ≠ g) →
      ∃ t, Takes c s t .stale (List.replicate n 0#8) ∧ SameButPort s t)

/-- A slot's generation advances by one, modulo 16, exactly when the slot becomes FREE; that is done by RETIRE, RETIRE-TAGGED,
RESET-TABLE and the removal of an EXPIRY notice alone, beside device reset, which sets every generation to 0 (R16). A FREE slot becomes live by CREATE alone, and it is then the lowest-numbered
FREE slot (R2, R18). -/
def Obligations.SlotsChangeByTheirRules : Prop :=
  (∀ (c : Instr) (s t : State), (∀ cause, c ≠ .deviceReset cause) → exec c s = .next t → ∀ i,
    t.generationAt i =
      (if (s.watchAt i).isSome = true ∧ t.watchAt i = none then s.generationAt i + 1#4 else s.generationAt i) ∧
    ((s.watchAt i).isSome = true ∧ t.watchAt i = none →
      (∃ h, IsRequest (.retire h) c s) ∨ (∃ tag mask, IsRequest (.retireTagged tag mask) c s) ∨ IsRequest .resetTable c s ∨
      (c = .noticeTakeRemoval ∧ ∃ w, s.watchAt i = some w ∧ w.state = .expired)) ∧
    (s.watchAt i = none ∧ (t.watchAt i).isSome = true →
      IsRequest .create c s ∧ ∀ j : SlotId, j < i → (s.watchAt j).isSome = true)) ∧
  (∀ (cause : ResetCause) (s t : State), exec (.deviceReset cause) s = .next t → ∀ i, t.generationAt i = 0#4)

/-! ## Invariants -/

/-- The machine right after reset meets every invariant (the level of its input pins is the model's choice, log 11). -/
def Obligations.ResetMeetsInvariants : Prop :=
  State.reset.TableSound ∧ State.reset.ChannelsSound ∧ State.reset.EngineSound ∧ State.reset.PortSound ∧
    State.reset.HeldSound

/-- Every step keeps the watches, the pending list and the compose buffer in agreement (R3, R6, R8, R11, R13, R51, R90). -/
def Obligations.StepKeepsTableSound : Prop :=
  ∀ s t : State, s.TableSound → step s = .next t → t.TableSound

/-- Every step keeps every live watch on an enabled channel with fitting levels, the channels of an accepted plan enabled and of
ANALOG or SUPPLY kind, and the latest value of channel 14 at 0 or from 1350 to 2750 (R5, R135, R147, R200). -/
def Obligations.StepKeepsChannelsSound : Prop :=
  ∀ s t : State, s.ChannelsSound → step s = .next t → t.ChannelsSound

/-- Every step keeps the sweep engine, the reference, the edge channels and the time base in step with the mode (R145, R152,
R163, R164, R177, R178). -/
def Obligations.StepKeepsEngineSound : Prop :=
  ∀ s t : State, s.EngineSound → step s = .next t → t.EngineSound

/-- Every step keeps MISO in agreement with the frame's phase, and a take claim on a slot of its generation that is in the
pending list (R61, R190, R191, R194). -/
def Obligations.StepKeepsPortSound : Prop :=
  ∀ s t : State, s.PortSound → step s = .next t → t.PortSound

/-- While RSTn is low or the supply is below its range, every step leaves the device at its reset values (R185, R200). -/
def Obligations.StepKeepsHeldSound : Prop :=
  ∀ s t : State, s.HeldSound → step s = .next t → t.HeldSound

/-! ## Evaluating samples -/

/-- The entry tests (R29 to R31) and the exit tests (R32 to R34) of each kind, on the exact integers: no value lies below A − h when
h exceeds A. Under settings that pass validation no sample passes both (R35). -/
def Obligations.EntryAndExitTestsOfEachKind : Prop :=
  ∀ (w : Watch) (v : Word),
    let a : Int := w.settings.levelA.toNat
    let h : Int := w.settings.hysteresis.toNat
    let x : Int := v.toNat
    (w.settings.kind = .above → (w.entryTest v = true ↔ a ≤ x) ∧ (w.exitTest v = true ↔ x < a - h)) ∧
    (w.settings.kind = .below → (w.entryTest v = true ↔ x ≤ a) ∧ (w.exitTest v = true ↔ a + h < x)) ∧
    (∀ level : Word, w.settings.levelB = some level →
      let b : Int := level.toNat
      (w.settings.kind = .outside →
        (w.entryTest v = true ↔ x < a ∨ b < x) ∧ (w.exitTest v = true ↔ a + h ≤ x ∧ x ≤ b - h)) ∧
      (w.settings.kind = .inside →
        (w.entryTest v = true ↔ a ≤ x ∧ x ≤ b) ∧ (w.exitTest v = true ↔ x < a - h ∨ b + h < x))) ∧
    (w.settings.kind = .delta → ∀ r : Word, w.reference = some r →
      (w.entryTest v = true ↔ (w.settings.step.toNat : Int) ≤ |x - r.toNat|)) ∧
    (w.settings.Fits → w.exitTest v = true → w.entryTest v = false)

/-- One good sample moves a watch as the table after R41 says (R37 to R41, R46): the fault mark is cleared and the last value
set, and the state, the dwell count, the reference and the notice follow the entry test, the exit test and the dwell. -/
def Obligations.GoodSampleMoves : Prop :=
  ∀ (w : Watch) (v : Word), 1 ≤ w.settings.dwell →
    let u : Watch := { w with faultMark := false, lastValue := some v }
    let j := w.goodSample v
    (w.settings.kind = .delta → w.state = .arming →
      j = { watch := { u with state := .quiet, dwellCount := 0, reference := some v }, posting := none }) ∧
    (∀ n, (w.state = .quiet ∧ n = 0) ∨ (w.state = .arming ∧ w.settings.kind ≠ .delta ∧ n = 0) ∨
        (w.state = .qualifying ∧ n = w.dwellCount) →
      (w.entryTest v = false →
        j = { watch := { u with state := .quiet, dwellCount := 0 }, posting := none }) ∧
      (w.entryTest v = true → n + 1 < w.settings.dwell →
        j = { watch := { u with state := .qualifying, dwellCount := n + 1 }, posting := none }) ∧
      (w.entryTest v = true → n + 1 = w.settings.dwell → w.settings.kind ≠ .delta →
        j = { watch := { u with state := .tripped, dwellCount := 0 }, posting := some (.trip, v) }) ∧
      (w.entryTest v = true → n + 1 = w.settings.dwell → w.settings.kind = .delta →
        j = { watch := { u with state := .quiet, dwellCount := 0, reference := some v }
              posting := some (.step, v) })) ∧
    (w.state = .tripped →
      (w.exitTest v = true →
        j = { watch := { u with state := .quiet, dwellCount := 0 }, posting := some (.clear, v) }) ∧
      (w.exitTest v = false → j = { watch := u, posting := none }))

/-- A faulted sample (R44, R45): it sets the fault mark, posts FAULT with 65535 when the mark was clear, takes a QUALIFYING watch
to QUIET with its dwell count 0, and leaves the state of any other watch, the last value and the reference. -/
def Obligations.FaultedSampleMoves : Prop :=
  ∀ w : Watch, w.Sound →
    w.faultedSample =
      { watch := { w with state := if w.state = .qualifying then .quiet else w.state, dwellCount := 0, faultMark := true }
        posting := if w.faultMark = true then none else some (.fault, 65535#16) } ∧
    (w.state ≠ .qualifying → w.faultedSample.watch = { w with faultMark := true })

/-- A level-kind watch in QUIET trips on the sample that completes its dwell of consecutive qualifying samples, and posts nothing
before it (R36). -/
def Obligations.DwellOfQualifyingSamplesTrips : Prop :=
  ∀ (w : Watch) (vs : List Word) (v : Word), w.settings.kind ≠ .delta → w.state = .quiet →
    (∀ x ∈ v :: vs, w.entryTest x = true) → vs.length + 1 = w.settings.dwell →
    let u := vs.foldl (fun x y => (x.goodSample y).posted) w
    (vs ≠ [] → u.state = .qualifying ∧ u.dwellCount = vs.length) ∧ u.notice = w.notice ∧
      (u.goodSample v).posting = some (.trip, v) ∧ (u.goodSample v).watch.state = .tripped ∧
      (u.goodSample v).watch.dwellCount = 0

/-- An arrival evaluates exactly the watches on its channel that are ARMING, QUIET, QUALIFYING or TRIPPED: a good sample as
GoodSampleMoves says, a faulted one as FaultedSampleMoves says; every other watch stays as it is (R22, R23). A posting becomes the
watch's pending notice, coalesced when it replaces one (R52, R53). So no event of the measuring blocks changes a SUSPENDED or
EXPIRED watch. -/
def Obligations.ArrivalsPassUnevaluatedWatches : Prop :=
  (∀ (c : ChannelId) (v : Word) (w : Watch),
    (w.settings.channel = c → w.state = .arming ∨ w.state = .quiet ∨ w.state = .qualifying ∨ w.state = .tripped →
      evaluate c v false w = w.goodSample v ∧ evaluate c v true w = w.faultedSample) ∧
    (w.settings.channel ≠ c ∨ w.state = .suspended ∨ w.state = .expired →
      ∀ faulted, evaluate c v faulted w = { watch := w, posting := none })) ∧
  (∀ w : Watch, Judgement.posted { watch := w, posting := none } = w ∧ ∀ kind v,
    Judgement.posted { watch := w, posting := some (kind, v) } =
      { w with notice := some { kind := kind, value := v, coalesced := w.notice.isSome } }) ∧
  (∀ (c : Instr) (s t : State) (i : SlotId) (w : Watch) (r : BitVec 12) (e : EdgeInput) (n : Nat),
    c ∈ [Instr.conversionCompletion r, .activeEdge e n, .oppositeEdge e n, .overflow e, .stall e, .windowEnd e] →
    exec c s = .next t → s.watchAt i = some w → w.state = .suspended ∨ w.state = .expired →
    t.watchAt i = some w ∧ (i ∈ t.joined ↔ i ∈ s.joined))

/-! ## The pending list and NOTIFYn -/

/-- The pending list holds the slots that joined, each entry after every entry of higher priority and after every entry of its own
priority that joined earlier (R55); a slot that joins stands after every entry whose priority is the same or higher and before
every entry whose priority is lower (R52). -/
def Obligations.PendingListOrder : Prop :=
  ∀ s : State, s.TableSound →
    s.pendingList.Perm s.joined ∧
    (s.pendingList.Pairwise fun i j => ∀ p q, s.priorityAt i = some p → s.priorityAt j = some q →
      q < p ∨ (p = q ∧ s.joined.idxOf i < s.joined.idxOf j)) ∧
    ∀ (i : SlotId) (p : Fin 8), i ∉ s.joined → s.priorityAt i = some p →
      let ahead := fun j => match s.priorityAt j with | some q => decide (p ≤ q) | none => false
      State.pendingList { s with joined := s.joined ++ [i] } =
        s.pendingList.filter ahead ++ i :: s.pendingList.filter (fun j => !ahead j)

/-- NOTIFYn is asserted exactly when notification is enabled and the head's watch has a priority at or above the threshold
(R67). -/
def Obligations.NotifyLineFollowsHead : Prop :=
  ∀ s : State, s.TableSound →
    (s.notifyAsserted = true ↔
      s.notify.enable = true ∧ ∃ i p, s.pendingList.head? = some i ∧ s.priorityAt i = some p ∧ s.notify.threshold ≤ p) ∧
    (s.notifyAsserted = true ↔
      s.notify.enable = true ∧ ∃ i ∈ s.pendingList, ∃ p, s.priorityAt i = some p ∧ s.notify.threshold ≤ p)

/-- A pending notice changes only by a posting that replaces it, which sets coalesced, and an EXPIRY notice is never replaced
(R53, R54): whatever the command, a notice present before and after in the same watch is the same or coalesced. -/
def Obligations.ReplacedNoticeIsCoalesced : Prop :=
  ∀ (c : Instr) (s t : State) (i : SlotId) (w u : Watch) (n m : Notice), s.TableSound → exec c s = .next t →
    s.watchAt i = some w → w.notice = some n → t.watchAt i = some u → u.notice = some m →
    (m = n ∨ m.coalesced = true) ∧ (n.kind = .expiry → m = n)

/-- NOTICE-PEEK reports the head of the list and changes nothing; NOTICE-TAKE reports the same and records a take claim on the
head's slot and generation; with an empty list both answer EMPTY with handle 65535 and no claim is recorded (R59, R60, R61,
R198). -/
def Obligations.NoticeRequestsReportHead : Prop :=
  ∀ s : State, s.TableSound →
    (∀ c, c = Instr.noticePeek ∨ c = Instr.noticeTake → s.port.awaits c.requestBytes = true →
      ∃ t, SameButPort s t ∧ t.port.cursor = s.port.cursor ∧
        (s.pendingList = [] → Answered c s t .empty ([0xFF#8, 0xFF#8] ++ List.replicate 7 0#8)) ∧
        (∀ i rest w n, s.pendingList = i :: rest → s.watchAt i = some w → w.notice = some n →
          Answered c s t .ok (wordBytes (s.handleAt i) ++ wordBytes (w.settings.owner.setWidth 16) ++
            [noticeKindByte n.kind] ++ wordBytes n.value ++
            [noticeFlags n.coalesced w.faultMark, watchStateByte w.state])) ∧
        (c = .noticePeek → t.port.claim = s.port.claim) ∧
        (c = .noticeTake → s.pendingList = [] → t.port.claim = none) ∧
        (c = .noticeTake → ∀ i rest, s.pendingList = i :: rest →
          t.port.claim = some { slot := i, generation := s.generationAt i }))

/-- At the end of NOTICE-TAKE's last result byte, a claim that stands for a slot of its generation removes the slot's notice: an
EXPIRY frees the slot with its generation advanced, any other leaves the watch without its notice. Without a claim, or with
another generation in the slot, nothing is removed. In every case the claim is cleared and the frame is TRAILING (R63, R64,
R191). -/
def Obligations.NoticeTakeRemovesClaimedNotice : Prop :=
  ∀ s : State, s.port.phase = .answering → s.port.received = [0x42#8] →
    ∃ t, exec .noticeTakeRemoval s = .next t ∧
      t.port = { s.port with phase := .trailing, miso := .zero, claim := none } ∧
      (s.port.claim = none → SameButPort s t) ∧
      (∀ k, s.port.claim = some k → s.generationAt k.slot ≠ k.generation → SameButPort s t) ∧
      (∀ k w, s.port.claim = some k → s.generationAt k.slot = k.generation → s.watchAt k.slot = some w →
        (w.state = .expired → OnlyFreed (fun j _ => j == k.slot) s t) ∧
        (w.state ≠ .expired →
          { t with port := s.port, slots := s.slots, joined := s.joined } = s ∧
          t.joined = s.joined.filter (fun j => j != k.slot) ∧
          t.watchAt k.slot = some { w with notice := none } ∧
          (∀ j, t.generationAt j = s.generationAt j) ∧ ∀ j, j ≠ k.slot → t.watchAt j = s.watchAt j))

/-- While a take claim stands, the claimed notice is the one reported: a command after which a claim still stands has not changed
the claim or the notice it names (R62). -/
def Obligations.StandingClaimKeepsNotice : Prop :=
  ∀ (c : Instr) (s t : State) (k m : TakeClaim), s.PortSound → exec c s = .next t → s.port.claim = some k →
    t.port.claim = some m → m = k ∧ (t.watchAt k.slot).map (·.notice) = (s.watchAt k.slot).map (·.notice)

/-- NOTIFY-SET writes an enable of 0 or 1 and a threshold up to 7 and reports them; any other argument is refused with BAD_ARG and
data 0; nothing else changes (R66). -/
def Obligations.NotifySetWritesSetting : Prop :=
  ∀ (s : State) (e th : Byte), s.port.awaits (Instr.notifySet e th).requestBytes = true →
    (∀ on : Bool, e = flagByte on → ∀ h : th.toNat < 8,
      ∃ t, Takes (.notifySet e th) s t .ok [e, th] ∧
        SameButPort { s with notify := { enable := on, threshold := ⟨th.toNat, h⟩ } } t) ∧
    (1 < e.toNat ∨ 7 < th.toNat →
      ∃ t, Takes (.notifySet e th) s t .badArg [0#8, 0#8] ∧ SameButPort s t)

/-! ## Leases and the time base -/

/-- An expiry of a running interval reloads the countdown with the period setting, which becomes the period in effect, and makes one
tick: every leased watch that is not EXPIRED has its lease remaining decreased by one, expires with an EXPIRY notice when it
reaches 0, and every other watch stays; the edge channels in COUNT mode open or count down their windows (R73, R78 to R80,
R170, R171). A stopped countdown produces no tick (R72). Window samples still due arrive before the tick (log 9). -/
def Obligations.IntervalExpiryTicks : Prop :=
  (∀ s : State, s.timeBase.countdown.isSome = true →
    ∃ u t, runAll [.windowEnd .edg0, .windowEnd .edg1] s = .next u ∧ exec .intervalExpiry s = .next t ∧
      t.timeBase = { u.timeBase with
        periodInEffect := u.timeBase.periodSetting, countdown := some u.timeBase.periodSetting } ∧
      Judged (fun _ w =>
        if w.settings.lease = 0#16 ∨ w.state = .expired then { watch := w, posting := none }
        else if 2 ≤ w.leaseRemaining.toNat then
          { watch := { w with leaseRemaining := w.leaseRemaining - 1#16 }, posting := none }
        else { watch := { w with state := .expired, dwellCount := 0, leaseRemaining := 0#16 }
               posting := some (.expiry, w.lastValue.getD 0#16) }) u t ∧
      (∀ e, t.edges.get e =
        let r := u.edges.get e
        let q := u.edgeSettings.get e
        if q.mode ≠ .count ∨ r.state = .idle then r
        else if r.state = .waiting then { r with state := .measuring, count := 0#16, gateCountdown := q.gate }
        else if 2 ≤ r.gateCountdown.toNat then { r with gateCountdown := r.gateCountdown - 1#8 }
        else { r with count := 0#16, gateCountdown := q.gate, windowDue := some r.count }) ∧
      { t with slots := u.slots, joined := u.joined, timeBase := u.timeBase, edges := u.edges, port := u.port } = u ∧
      t.port = { u.port with claim := t.port.claim }) ∧
  (∀ s : State, s.timeBase.countdown = none → exec .intervalExpiry s = .next s)

/-- A lease with k ticks left lapses on the k-th expiry of the interval and not before, whatever the watch's state, when nothing else
reaches the watch: its channel is no edge channel in COUNT mode, whose windows hand samples on ticks (R79, R83). -/
def Obligations.LeaseLapsesOnLastTick : Prop :=
  ∀ (s : State) (i : SlotId) (w : Watch) (n : Nat), s.timeBase.countdown.isSome = true →
    s.watchAt i = some w →
    (∀ e, edgeChannel e = w.settings.channel →
      (s.edgeSettings.get e).mode ≠ .count ∧ (s.edges.get e).windowDue = none) →
    w.settings.lease ≠ 0#16 → w.state ≠ .expired → n < w.leaseRemaining.toNat →
    ∃ t, runAll (List.replicate n .intervalExpiry) s = .next t ∧
      t.watchAt i = some { w with leaseRemaining := w.leaseRemaining - BitVec.ofNat 16 n } ∧
      (n + 1 = w.leaseRemaining.toNat → ∃ u x, exec .intervalExpiry t = .next u ∧ u.watchAt i = some x ∧
        x.state = .expired ∧ x.leaseRemaining = 0#16 ∧ x.settings = w.settings ∧ x.lastValue = w.lastValue ∧
        x.notice = some { kind := .expiry, value := w.lastValue.getD 0#16, coalesced := w.notice.isSome })

/-- LEASE_EXPIRY of one slot (R80): while the time base runs, a leased watch with at most one tick left becomes EXPIRED and posts
EXPIRY, and no other slot changes (that the row stands for the tick's part at one slot is the model's reading, log 8). -/
def Obligations.LeaseExpiryExpiresWatch : Prop :=
  ∀ (s : State) (i : SlotId) (w : Watch), s.timeBase.countdown.isSome = true → s.watchAt i = some w →
    w.settings.lease ≠ 0#16 → w.state ≠ .expired → w.leaseRemaining.toNat ≤ 1 →
    ∃ t, exec (.leaseExpiry i) s = .next t ∧
      t.watchAt i = some { w with
        state := .expired, dwellCount := 0, leaseRemaining := 0#16
        notice := some { kind := .expiry, value := w.lastValue.getD 0#16, coalesced := w.notice.isSome } } ∧
      (∀ j, j ≠ i → t.watchAt j = s.watchAt j) ∧ (∀ j, t.generationAt j = s.generationAt j) ∧
      t.joined = (if w.notice = none then s.joined ++ [i] else s.joined) ∧
      (∀ k, s.port.claim = some k → t.port.claim = if k.slot = i then none else some k) ∧
      { t with slots := s.slots, joined := s.joined, port := s.port } = s ∧
      t.port = { s.port with claim := t.port.claim }

/-- RENEW by the handle of a live watch (R85): EXPIRED is answered for an EXPIRED watch with no effect, OK with 0 and no effect for a
lease setting of 0, and otherwise the lease remaining is reloaded and reported. -/
def Obligations.RenewReloadsLease : Prop :=
  ∀ (s : State) (i : SlotId) (w : Watch), s.watchAt i = some w →
    s.port.awaits (Instr.renew (s.handleAt i)).requestBytes = true →
    (w.state = .expired → ∃ t, Takes (.renew (s.handleAt i)) s t .expired [0#8, 0#8] ∧ SameButPort s t) ∧
    (w.state ≠ .expired → w.settings.lease = 0#16 →
      ∃ t, Takes (.renew (s.handleAt i)) s t .ok [0#8, 0#8] ∧ SameButPort s t) ∧
    (w.state ≠ .expired → w.settings.lease ≠ 0#16 →
      ∃ t, Takes (.renew (s.handleAt i)) s t .ok (wordBytes w.settings.lease) ∧
        OnlyWatch i { w with leaseRemaining := w.settings.lease } s t)

/-- TIMEBASE-SET writes the period setting alone and reports both periods, or refuses 0 with BAD_ARG; TIMEBASE-GET reports both
periods and changes nothing (R74, R76). -/
def Obligations.TimebaseRequestsReportPeriods : Prop :=
  (∀ (s : State) (p : Word), s.port.awaits (Instr.timebaseSet p).requestBytes = true →
    (p = 0#16 → ∃ t, Takes (.timebaseSet p) s t .badArg [0#8, 0#8, 0#8, 0#8] ∧ SameButPort s t) ∧
    (p ≠ 0#16 → ∃ t, Takes (.timebaseSet p) s t .ok (wordBytes p ++ wordBytes s.timeBase.periodInEffect) ∧
      SameButPort { s with timeBase := { s.timeBase with periodSetting := p } } t)) ∧
  (∀ s : State, s.port.awaits Instr.timebaseGet.requestBytes = true →
    ∃ t, Takes .timebaseGet s t .ok (wordBytes s.timeBase.periodSetting ++ wordBytes s.timeBase.periodInEffect) ∧
      SameButPort s t)

/-! ## Building and changing watches -/

/-- COMPOSE-WRITE accepts exactly the values of its table: it then writes the one field, so that the field reads back the value and
every other field reads as before, and reports field and value; otherwise it is refused with BAD_ARG and data 0. Nothing else
changes in either case (R92). -/
def Obligations.ComposeWriteChecksItsField : Prop :=
  ∀ (s : State) (f : Byte) (v : Word), s.port.awaits (Instr.composeWrite f v).requestBytes = true →
    let n := v.toNat
    let accepted := (f.toNat = 0 ∧ n ≤ 2047) ∨ (f.toNat = 1 ∧ n ≤ 14) ∨ (f.toNat = 2 ∧ n ≤ 4) ∨ f.toNat = 3 ∨ f.toNat = 4 ∨
      (f.toNat = 5 ∧ n ≤ 1023) ∨ (f.toNat = 6 ∧ 1 ≤ n ∧ n ≤ 64) ∨ (f.toNat = 7 ∧ 1 ≤ n) ∨ (f.toNat = 8 ∧ n ≤ 7) ∨
      f.toNat = 9 ∨ (f.toNat = 10 ∧ n ≤ 1)
    (accepted → ∃ t, Takes (.composeWrite f v) s t .ok (f :: wordBytes v) ∧
      { t with port := s.port, compose := s.compose } = s ∧
      ∀ g : Byte, t.compose.read g = if g = f then some v else s.compose.read g) ∧
    (¬ accepted → ∃ t, Takes (.composeWrite f v) s t .badArg [0#8, 0#8, 0#8] ∧ SameButPort s t)

/-- COMPOSE-CLEAR sets every field of the compose buffer to its compose default, answers OK with no data bytes, and changes nothing
else (R91). COMPOSE-READ reports a field id of 0 to 10 and the value the field holds, in its code; an id above 10 is refused with
BAD_ARG and data 0; nothing changes (R93). -/
def Obligations.ComposeClearAndReadAnswer : Prop :=
  (∀ s : State, s.port.awaits Instr.composeClear.requestBytes = true →
    ∃ t, Takes .composeClear s t .ok [] ∧
      SameButPort { s with compose :=
        { owner := 0#11, channel := 0, kind := .above, levelA := 0#16, levelB := 0#16, hysteresis := 0#10, dwell := 1,
          step := 1#16, priority := 0, lease := 0#16, startSuspended := false } } t) ∧
  (∀ (s : State) (f : Byte), s.port.awaits (Instr.composeRead f).requestBytes = true →
    let b := s.compose
    let fields : List Word :=
      [b.owner.setWidth 16, BitVec.ofNat 16 b.channel.val, (watchKindByte b.kind).setWidth 16, b.levelA, b.levelB,
       b.hysteresis.setWidth 16, BitVec.ofNat 16 b.dwell, b.step, BitVec.ofNat 16 b.priority.val, b.lease,
       (flagByte b.startSuspended).setWidth 16]
    (∀ v, fields[f.toNat]? = some v →
      ∃ t, Takes (.composeRead f) s t .ok (f :: wordBytes v) ∧ SameButPort s t) ∧
    (10 < f.toNat → ∃ t, Takes (.composeRead f) s t .badArg [0#8, 0#8, 0#8] ∧ SameButPort s t))

/-- LOAD of a live watch in any state copies its settings into the compose buffer, with level B 0 when it is absent and start
suspended no, reports the state, and changes nothing else; what CREATE or AMEND would write from the buffer is then the
watch's own settings (R4, R94). -/
def Obligations.LoadCopiesSettings : Prop :=
  ∀ (s : State) (i : SlotId) (w : Watch), s.watchAt i = some w → w.settings.levelB.isSome = w.settings.kind.isBand →
    s.port.awaits (Instr.load (s.handleAt i)).requestBytes = true →
    ∃ t, Takes (.load (s.handleAt i)) s t .ok [watchStateByte w.state] ∧
      { t with port := s.port, compose := s.compose } = s ∧
      t.compose =
        { owner := w.settings.owner, channel := w.settings.channel, kind := w.settings.kind, levelA := w.settings.levelA,
          levelB := w.settings.levelB.getD 0#16, hysteresis := w.settings.hysteresis, dwell := w.settings.dwell,
          step := w.settings.step, priority := w.settings.priority, lease := w.settings.lease, startSuspended := false } ∧
      t.compose.toSettings = w.settings

/-- Validation makes its checks in order and reports the first that fails: field 1 for a channel not enabled, 3 for level A, 4 for
level B, 5 for a band too narrow (R95). CREATE and AMEND of a watch that is not EXPIRED then answer BAD_RECORD with that
field and change nothing (R97). -/
def Obligations.ValidationReportsFirstFailure : Prop :=
  ∀ s : State,
    let b := s.compose
    let enabled := s.channels[b.channel].enabled = true
    let levelA := b.levelA.toNat ≤ channelMax b.channel
    let levelB := b.kind = .outside ∨ b.kind = .inside →
      b.levelB.toNat ≤ channelMax b.channel ∧ b.levelA.toNat < b.levelB.toNat
    let band := b.kind = .outside → b.levelA.toNat + 2 * b.hysteresis.toNat ≤ b.levelB.toNat
    (∀ f : Byte, (¬ enabled ∧ f = 1#8) ∨ (enabled ∧ ¬ levelA ∧ f = 3#8) ∨ (enabled ∧ levelA ∧ ¬ levelB ∧ f = 4#8) ∨
        (enabled ∧ levelA ∧ levelB ∧ ¬ band ∧ f = 5#8) →
      (s.port.awaits Instr.create.requestBytes = true →
        ∃ t, Takes .create s t .badRecord [0xFF#8, 0xFF#8, f] ∧ SameButPort s t) ∧
      (∀ i w, s.watchAt i = some w → w.state ≠ .expired →
        s.port.awaits (Instr.amend (s.handleAt i)).requestBytes = true →
        ∃ t, Takes (.amend (s.handleAt i)) s t .badRecord [f, 0#8, 0#8, 0#8] ∧ SameButPort s t)) ∧
    (enabled ∧ levelA ∧ levelB ∧ band ↔ s.failingField = none)

/-- CREATE of a valid record fills the lowest-numbered FREE slot with a new watch of the buffer's settings, ARMING or SUSPENDED, with
its lease loaded and no history, and reports its handle; with no FREE slot it answers NO_SLOT (R18, R98). The settings are fields
0 to 9 of the buffer, with level B only for the band kinds (R4). -/
def Obligations.CreateFillsLowestFreeSlot : Prop :=
  (∀ b : ComposeBuffer, b.toSettings =
    { owner := b.owner, channel := b.channel, kind := b.kind, levelA := b.levelA,
      levelB := if b.kind = .outside ∨ b.kind = .inside then some b.levelB else none, hysteresis := b.hysteresis,
      dwell := b.dwell, step := b.step, priority := b.priority, lease := b.lease }) ∧
  ∀ s : State, s.failingField = none → s.port.awaits Instr.create.requestBytes = true →
    (∀ i, s.watchAt i = none → (∀ j, j < i → (s.watchAt j).isSome = true) →
      ∃ t, Takes .create s t .ok (wordBytes (s.handleAt i) ++ [0#8]) ∧
        { t with port := s.port, slots := s.slots } = s ∧ (∀ j, t.generationAt j = s.generationAt j) ∧
        (∀ j, j ≠ i → t.watchAt j = s.watchAt j) ∧
        ∃ w, t.watchAt i = some w ∧ w.settings = s.compose.toSettings ∧
          w.state = (if s.compose.startSuspended then .suspended else .arming) ∧ w.dwellCount = 0 ∧
          w.leaseRemaining = s.compose.lease ∧ w.lastValue = none ∧ w.reference = none ∧ w.faultMark = false ∧
          w.notice = none) ∧
    ((∀ i, (s.watchAt i).isSome = true) →
      ∃ t, Takes .create s t .noSlot [0xFF#8, 0xFF#8, 0#8] ∧ SameButPort s t)

/-- AMEND by the handle of a live watch (R100 to R103): EXPIRED is answered for an EXPIRED watch; a valid record replaces the
settings and reloads the lease; a change of channel or kind discards the history and re-arms a watch in service, and any other
change keeps it and returns a QUALIFYING watch to QUIET; the pending notice and the list's order of joining stay. -/
def Obligations.AmendRearmsOrKeeps : Prop :=
  ∀ (s : State) (i : SlotId) (w : Watch), s.watchAt i = some w →
    s.port.awaits (Instr.amend (s.handleAt i)).requestBytes = true →
    let n := s.compose.toSettings
    (w.state = .expired →
      ∃ t, Takes (.amend (s.handleAt i)) s t .expired [0#8, 0#8, 0#8, 0#8] ∧ SameButPort s t) ∧
    (w.state ≠ .expired → s.failingField = none → n.channel = w.settings.channel → n.kind = w.settings.kind →
      ∃ t state, state = (if w.state = .qualifying then .quiet else w.state) ∧
        Takes (.amend (s.handleAt i)) s t .ok (0#8 :: watchStateByte state :: wordBytes n.lease) ∧
        OnlyWatch i { w with settings := n, leaseRemaining := n.lease, state := state, dwellCount := 0 } s t) ∧
    (w.state ≠ .expired → s.failingField = none → n.channel ≠ w.settings.channel ∨ n.kind ≠ w.settings.kind →
      ∃ t state, state = (if w.state = .suspended then .suspended else .arming) ∧
        Takes (.amend (s.handleAt i)) s t .ok (0#8 :: watchStateByte state :: wordBytes n.lease) ∧
        OnlyWatch i { w with settings := n, leaseRemaining := n.lease, state := state, dwellCount := 0,
                             faultMark := false, lastValue := none, reference := none } s t)

/-- SUSPEND and RESUME by the handle of a live watch (R108, R109): SUSPEND takes a watch in service to SUSPENDED with its dwell count
0; RESUME takes a SUSPENDED watch to ARMING with its history discarded; each leaves the other states alone, answers EXPIRED
for an EXPIRED watch, and reports the state the watch held. -/
def Obligations.SuspendAndResumeMoves : Prop :=
  ∀ (s : State) (i : SlotId) (w : Watch), s.watchAt i = some w →
    let h := s.handleAt i
    (s.port.awaits (Instr.suspend h).requestBytes = true →
      (w.state = .expired → ∃ t, Takes (.suspend h) s t .expired [0#8] ∧ SameButPort s t) ∧
      (w.state = .suspended → ∃ t, Takes (.suspend h) s t .ok [5#8] ∧ SameButPort s t) ∧
      (w.state ≠ .expired → w.state ≠ .suspended →
        ∃ t, Takes (.suspend h) s t .ok [watchStateByte w.state] ∧
          OnlyWatch i { w with state := .suspended, dwellCount := 0 } s t)) ∧
    (s.port.awaits (Instr.resume h).requestBytes = true →
      (w.state = .expired → ∃ t, Takes (.resume h) s t .expired [0#8] ∧ SameButPort s t) ∧
      (w.state = .suspended →
        ∃ t, Takes (.resume h) s t .ok [5#8] ∧
          OnlyWatch i { w with state := .arming, dwellCount := 0, faultMark := false, lastValue := none,
                               reference := none } s t) ∧
      (w.state ≠ .expired → w.state ≠ .suspended →
        ∃ t, Takes (.resume h) s t .ok [watchStateByte w.state] ∧ SameButPort s t))

/-- WATCH-STATUS reports a live watch in the thirteen data bytes of R199 and changes nothing (R21). -/
def Obligations.WatchStatusReportsWatch : Prop :=
  ∀ (s : State) (i : SlotId) (w : Watch), s.watchAt i = some w →
    s.port.awaits (Instr.watchStatus (s.handleAt i)).requestBytes = true →
    ∃ t, Takes (.watchStatus (s.handleAt i)) s t .ok
        ([watchStateByte w.state] ++ wordBytes (w.settings.owner.setWidth 16) ++
          [BitVec.ofNat 8 w.settings.channel.val, watchKindByte w.settings.kind,
           BitVec.ofNat 8 w.settings.priority.val, BitVec.ofNat 8 w.dwellCount] ++
          wordBytes w.leaseRemaining ++ wordBytes (w.lastValue.getD 0#16) ++
          [statusFlags w.lastValue.isSome w.faultMark,
           match w.notice with | none => 0#8 | some n => noticeKindByte n.kind]) ∧
      SameButPort s t

/-- RETIRE frees the watch of a handle and reports the kind of the notice it discards; RETIRE-TAGGED frees every matching watch and
reports their number; RESET-TABLE frees every live watch, empties the list, restores the compose defaults, clears the cursor
and reports both numbers (R20, R106, R111, R112, R121). Nothing else changes. -/
def Obligations.FreeingRequestsFreeSlots : Prop :=
  (∀ (s : State) (i : SlotId) (w : Watch), s.watchAt i = some w →
    s.port.awaits (Instr.retire (s.handleAt i)).requestBytes = true →
    ∃ t, Takes (.retire (s.handleAt i)) s t .ok [match w.notice with | none => 0#8 | some n => noticeKindByte n.kind] ∧
      OnlyFreed (fun j _ => j == i) s t) ∧
  (∀ (s : State) (tag mask : BitVec 11),
    let c := Instr.retireTagged (tag.setWidth 16) (mask.setWidth 16)
    s.port.awaits c.requestBytes = true →
    ∃ t, Takes c s t .ok [countByte (s.liveCountOf fun w => w.tagMatch tag mask)] ∧
      OnlyFreed (fun _ w => w.tagMatch tag mask) s t) ∧
  (∀ s : State, s.TableSound → s.port.awaits Instr.resetTable.requestBytes = true →
    ∃ t, Answered .resetTable s t .ok [countByte (s.liveCountOf fun _ => true), countByte s.joined.length] ∧
      t.port.claim = s.port.claim ∧ t.port.cursor = none ∧ t.joined = [] ∧
      t.compose = ComposeBuffer.defaults ∧
      OnlyFreed (fun _ _ => true) s { t with compose := s.compose })

/-! ## Owner tags and the enumeration cursor -/

/-- A watch matches a tag and a mask when its owner agrees with the tag in every bit position in which the mask holds a 1; every watch
matches a mask of 0, a mask of 2047 compares all eleven bits, the state plays no part, and a request selects live watches alone: a FREE slot matches nothing (R114). -/
def Obligations.TagMatchComparesMaskedBits : Prop :=
  ∀ (w : Watch) (tag mask : BitVec 11),
    (w.tagMatch tag mask = true ↔
      ∀ k : Nat, k < 11 → mask.getLsbD k = true → w.settings.owner.getLsbD k = tag.getLsbD k) ∧
    w.tagMatch tag 0#11 = true ∧ (w.tagMatch tag 2047#11 = true ↔ w.settings.owner = tag) ∧
    (∀ state, Watch.tagMatch tag mask { w with state := state } = w.tagMatch tag mask) ∧
    ∀ (s : State) (i : SlotId) (p : SlotId → Watch → Bool),
      s.selects p i = true ↔ ∃ x, s.watchAt i = some x ∧ p i x = true

/-- The tagged requests refuse a tag or a mask above 2047 with BAD_ARG and counts of 0 (R115); otherwise RENEW-TAGGED reloads the
matching leased watches that are not EXPIRED, SUSPEND-TAGGED suspends the matching watches in service, RESUME-TAGGED resumes
the matching SUSPENDED ones, COUNT-TAGGED acts on none, and each reports its counts (R117, R119, R120, R123). -/
def Obligations.TaggedRequestsActOnMatches : Prop :=
  (∀ (s : State) (tag mask : Word) (c : Instr) (n : Nat),
    (c, n) ∈ [(Instr.renewTagged tag mask, 2), (.suspendTagged tag mask, 1), (.resumeTagged tag mask, 1),
      (.retireTagged tag mask, 1), (.countTagged tag mask, 3)] →
    s.port.awaits c.requestBytes = true → 2047 < tag.toNat ∨ 2047 < mask.toNat →
    ∃ t, Takes c s t .badArg (List.replicate n 0#8) ∧ SameButPort s t) ∧
  (∀ (s : State) (tag mask : BitVec 11),
    let T : Word := tag.setWidth 16
    let M : Word := mask.setWidth 16
    let count := fun p => countByte (s.liveCountOf fun w => w.tagMatch tag mask && p w)
    let leased := fun w : Watch => decide (w.settings.lease ≠ 0#16 ∧ w.state ≠ .expired)
    let serving := fun w : Watch => decide (w.state ≠ .suspended ∧ w.state ≠ .expired)
    (s.port.awaits (Instr.renewTagged T M).requestBytes = true →
      ∃ t, Takes (.renewTagged T M) s t .ok [count leased, count fun w => w.state == .expired] ∧
        OnlyWatches (fun w => if w.tagMatch tag mask ∧ leased w then { w with leaseRemaining := w.settings.lease } else w)
          s t) ∧
    (s.port.awaits (Instr.suspendTagged T M).requestBytes = true →
      ∃ t, Takes (.suspendTagged T M) s t .ok [count serving] ∧
        OnlyWatches (fun w => if w.tagMatch tag mask ∧ serving w then { w with state := .suspended, dwellCount := 0 } else w)
          s t) ∧
    (s.port.awaits (Instr.resumeTagged T M).requestBytes = true →
      ∃ t, Takes (.resumeTagged T M) s t .ok [count fun w => w.state == .suspended] ∧
        OnlyWatches (fun w => if w.tagMatch tag mask ∧ w.state = .suspended then
          { w with state := .arming, dwellCount := 0, faultMark := false, lastValue := none, reference := none } else w)
          s t) ∧
    (s.port.awaits (Instr.countTagged T M).requestBytes = true →
      ∃ t, Takes (.countTagged T M) s t .ok
          [count fun _ => true, count fun w => w.notice.isSome, count fun w => w.state == .expired] ∧
        SameButPort s t))

/-- FIND-FIRST begins a walk before slot 0 and FIND-NEXT goes on from the slot last reported; each reports the first live matching slot
above the position in ascending order and moves the cursor to it, or answers EMPTY with the cursor at its end (R125, R126). A
walk that has ended and "no search" answer EMPTY; a tag or mask above 2047 answers BAD_ARG and leaves the cursor. -/
def Obligations.WalkReportsNextMatch : Prop :=
  (∀ (s : State) (tag mask : BitVec 11) (c : Instr) (from_ : Nat),
      (c = .findFirst (tag.setWidth 16) (mask.setWidth 16) ∧ from_ = 0) ∨
        (c = .findNext ∧ ∃ pos, s.port.cursor = some { tag := tag, mask := mask, position := pos } ∧
          ((pos = .beforeFirst ∧ from_ = 0) ∨ (∃ i, pos = .reported i ∧ from_ = i.val + 1) ∨ (pos = .ended ∧ from_ = 64))) →
      s.port.awaits c.requestBytes = true →
      (∀ (i : SlotId) (w : Watch), from_ ≤ i.val → s.watchAt i = some w → w.tagMatch tag mask = true →
        (∀ (j : SlotId) (x : Watch), from_ ≤ j.val → j < i → s.watchAt j = some x → x.tagMatch tag mask = false) →
        ∃ t, Answered c s t .ok
            (wordBytes (s.handleAt i) ++ wordBytes (w.settings.owner.setWidth 16) ++ [watchStateByte w.state]) ∧
          SameButPort s t ∧ t.port.claim = s.port.claim ∧
          t.port.cursor = some { tag := tag, mask := mask, position := .reported i }) ∧
      ((∀ (j : SlotId) (x : Watch), from_ ≤ j.val → s.watchAt j = some x → x.tagMatch tag mask = false) →
        ∃ t, Answered c s t .empty [0xFF#8, 0xFF#8, 0#8, 0#8, 0#8] ∧ SameButPort s t ∧ t.port.claim = s.port.claim ∧
          t.port.cursor = some { tag := tag, mask := mask, position := .ended })) ∧
  (∀ s : State, s.port.cursor = none → s.port.awaits Instr.findNext.requestBytes = true →
    ∃ t, Takes .findNext s t .empty [0xFF#8, 0xFF#8, 0#8, 0#8, 0#8] ∧ SameButPort s t) ∧
  (∀ (s : State) (tag mask : Word), 2047 < tag.toNat ∨ 2047 < mask.toNat →
    s.port.awaits (Instr.findFirst tag mask).requestBytes = true →
    ∃ t, Takes (.findFirst tag mask) s t .badArg [0xFF#8, 0xFF#8, 0#8, 0#8, 0#8] ∧ SameButPort s t)

/-! ## The channel table -/

/-- CHANNEL-SET makes its checks in order: BAD_ARG for an argument outside its codes, WRONG_MODE outside CONFIG, IN_USE when it would
take away a channel in use (R134, R135); otherwise it writes the entry, and a change of edge mode or measure rate drops the
latest sample (R136). `edge` is the edge input of channels 12 and 13 with the new settings; for other channels the edge
arguments are not read. -/
def Obligations.ChannelSetChecksAndWrites : Prop :=
  ∀ (s : State) (ch en m p r g : Byte),
    let c := Instr.channelSet ch en m p r g
    s.port.awaits c.requestBytes = true →
    (14 < ch.toNat ∨ 1 < en.toNat ∨
        ((ch.toNat = 12 ∨ ch.toNat = 13) ∧ (2 < m.toNat ∨ 1 < p.toNat ∨ 3 < r.toNat ∨ g = 0#8)) →
      ∃ t, Takes c s t .badArg (List.replicate 6 0#8) ∧ SameButPort s t) ∧
    (∀ (k : ChannelId) (on : Bool) (edge : Option (EdgeInput × EdgeSettings)), ch.toNat = k.val → en = flagByte on →
      (edge = none ∧ channelKind k ≠ .edge ∨
        ∃ e t, edge = some (e, t) ∧ edgeChannel e = k ∧ m = edgeModeByte t.mode ∧ p = polarityByte t.polarity ∧
          r = measureRateByte t.rate ∧ g = t.gate ∧ g ≠ 0#8) →
      let inUse := (on = false ∧ (s.Named k ∨ s.Contained k)) ∨
        (∃ e t, edge = some (e, t) ∧ s.Named k ∧
          ((s.edgeSettings.get e).mode ≠ t.mode ∨ (s.edgeSettings.get e).rate ≠ t.rate))
      (s.mode ≠ .config → ∃ t, Takes c s t .wrongMode (List.replicate 6 0#8) ∧ SameButPort s t) ∧
      (s.mode = .config → inUse → ∃ t, Takes c s t .inUse (List.replicate 6 0#8) ∧ SameButPort s t) ∧
      (s.mode = .config → ¬ inUse → ∃ t data, Takes c s t .ok data ∧
        { t with port := s.port, channels := s.channels, edgeSettings := s.edgeSettings } = s ∧
        (∀ d, d ≠ k → t.channels[d] = s.channels[d]) ∧
        (edge = none → data = [channelKindByte (channelKind k), en, 0#8, 0#8, 0#8, 0#8] ∧ t.channels[k] = { s.channels[k] with enabled := on } ∧ t.edgeSettings = s.edgeSettings) ∧
        (∀ e u, edge = some (e, u) → data = [1#8, en, m, p, r, g] ∧ t.edgeSettings.get e = u ∧ (∀ f, f ≠ e → t.edgeSettings.get f = s.edgeSettings.get f) ∧
          t.channels[k] =
            if (s.edgeSettings.get e).mode = u.mode ∧ (s.edgeSettings.get e).rate = u.rate then
              { s.channels[k] with enabled := on }
            else { s.channels[k] with enabled := on, latest := 0#16, fresh := false, faultMark := false })))

/-- CHANNEL-GET reports the entry's kind and settings and changes nothing (R137); CHANNEL-READ reports the latest sample and clears the
fresh flag (R141); both refuse a channel above 14 with BAD_ARG. -/
def Obligations.ChannelGetAndReadReport : Prop :=
  (∀ (s : State) (ch : Byte), 14 < ch.toNat →
    (s.port.awaits (Instr.channelGet ch).requestBytes = true →
      ∃ t, Takes (.channelGet ch) s t .badArg (List.replicate 6 0#8) ∧ SameButPort s t) ∧
    (s.port.awaits (Instr.channelRead ch).requestBytes = true →
      ∃ t, Takes (.channelRead ch) s t .badArg (List.replicate 4 0#8) ∧ SameButPort s t)) ∧
  (∀ (s : State) (ch : Byte) (k : ChannelId), ch.toNat = k.val →
    (s.port.awaits (Instr.channelGet ch).requestBytes = true →
      ∃ t, SameButPort s t ∧
        (channelKind k ≠ .edge → Takes (.channelGet ch) s t .ok
          [channelKindByte (channelKind k), flagByte s.channels[k].enabled, 0#8, 0#8, 0#8, 0#8]) ∧
        (∀ e, edgeChannel e = k → Takes (.channelGet ch) s t .ok
          [1#8, flagByte s.channels[k].enabled, edgeModeByte (s.edgeSettings.get e).mode,
           polarityByte (s.edgeSettings.get e).polarity, measureRateByte (s.edgeSettings.get e).rate,
           (s.edgeSettings.get e).gate])) ∧
    (s.port.awaits (Instr.channelRead ch).requestBytes = true →
      ∃ t, Takes (.channelRead ch) s t .ok
          (wordBytes s.channels[k].latest ++
            [s.channels[k].sequence, channelFlags s.channels[k].fresh s.channels[k].faultMark]) ∧
        { t with port := s.port, channels := s.channels } = s ∧
        t.channels[k] = { s.channels[k] with fresh := false } ∧ ∀ d, d ≠ k → t.channels[d] = s.channels[d]))

/-! ## The sweep engine and the reference -/

/-- A conversion cycle (R145): its channels in ascending order for PASS and LOOP, its length as tabulated for PRIORITY LOOP, and every
priority channel before each member. -/
def Obligations.ConversionCycleOfEachMode : Prop :=
  ∀ p : SweepPlan,
    (p.mode = .one → p.cycle = [p.single]) ∧
    (p.mode = .pass ∨ p.mode = .loop → p.cycle.Pairwise (· < ·) ∧ ∀ c : ChannelId, c ∈ p.cycle ↔ p.members.getLsbD c.val) ∧
    (p.mode = .priorityLoop →
      p.cycle.length = ((channelsOf p.priorities).length + 1) * (channelsOf p.members).length ∧
      ∃ parts : List (List ChannelId), p.cycle = parts.flatten ∧
        parts = (channelsOf p.members).map fun m => channelsOf p.priorities ++ [m])

/-- PLAN-SET makes its checks in order (R146): the codes, the mode, then for the requested mode that every channel it converts is
enabled and not EDGE, that the member set is not empty, and in PRIORITY LOOP that the priority set holds 1 to 4 channels, none of
them a member. On acceptance it writes the whole plan, sets the accepted flag and the position 0 and reports
the cycle length (R146, R147); PLAN-GET reports the plan (R148). -/
def Obligations.PlanRequestsWriteAndReport : Prop :=
  (∀ (s : State) (m c : Byte) (ms ps : Word) (tr r : Byte),
    let i := Instr.planSet m c ms ps tr r
    let converts := fun k : ChannelId => s.channels[k].enabled = true ∧ k ≠ 12 ∧ k ≠ 13
    let all := fun set : BitVec 15 => ∀ k : ChannelId, set.getLsbD k.val = true → converts k
    let fits := fun p : SweepPlan =>
      (p.mode = .one → converts p.single) ∧ (p.mode ≠ .one → p.members ≠ 0#15 ∧ all p.members) ∧
      (p.mode = .priorityLoop →
        p.priorities ≠ 0#15 ∧ ((List.finRange 15).filter fun k => p.priorities.getLsbD k.val).length ≤ 4 ∧ all p.priorities ∧
          ∀ k : ChannelId, ¬ (p.members.getLsbD k.val = true ∧ p.priorities.getLsbD k.val = true))
    s.port.awaits i.requestBytes = true →
    (3 < m.toNat ∨ 14 < c.toNat ∨ 32768 ≤ ms.toNat ∨ 32768 ≤ ps.toNat ∨ 1 < tr.toNat ∨ 1 < r.toNat →
      ∃ t, Takes i s t .badArg [0#8] ∧ SameButPort s t) ∧
    (∀ p : SweepPlan, m = planModeByte p.mode → c.toNat = p.single.val → ms = p.members.setWidth 16 →
      ps = p.priorities.setWidth 16 → tr = triggerByte p.trigger → r = resolutionByte p.resolution → p.accepted = true →
      (s.mode ≠ .config → ∃ t, Takes i s t .wrongMode [0#8] ∧ SameButPort s t) ∧
      (s.mode = .config → ¬ fits p → ∃ t, Takes i s t .badArg [0#8] ∧ SameButPort s t) ∧
      (s.mode = .config → fits p →
        ∃ t, Takes i s t .ok [countByte p.cycle.length] ∧ SameButPort { s with plan := p, position := 0 } t))) ∧
  (∀ s : State, s.port.awaits Instr.planGet.requestBytes = true →
    ∃ t, Takes .planGet s t .ok
        ([flagByte s.plan.accepted, planModeByte s.plan.mode, BitVec.ofNat 8 s.plan.single.val] ++
          wordBytes (s.plan.members.setWidth 16) ++ wordBytes (s.plan.priorities.setWidth 16) ++
          [triggerByte s.plan.trigger, resolutionByte s.plan.resolution, countByte s.plan.cycle.length]) ∧
      SameButPort s t)

/-- START makes its checks in order and begins the run as CONVERTING, WAIT_REF or ARMED at position 0 (R153); STOP returns the engine to
IDLE unless a mode change is pending (R160). -/
def Obligations.StartAndStopMoveEngine : Prop :=
  (∀ s : State, s.port.awaits Instr.start.requestBytes = true →
    (s.mode ≠ .run → ∃ t, Takes .start s t .wrongMode [0#8] ∧ SameButPort s t) ∧
    (s.mode = .run → s.requested ≠ none ∨ s.engine ≠ .idle → ∃ t, Takes .start s t .busy [0#8] ∧ SameButPort s t) ∧
    (s.mode = .run → s.requested = none → s.engine = .idle →
      (s.plan.accepted = false → ∃ t, Takes .start s t .empty [0#8] ∧ SameButPort s t) ∧
      (s.plan.accepted = true → s.reference = .off → ∃ t, Takes .start s t .noRef [0#8] ∧ SameButPort s t) ∧
      (s.plan.accepted = true → s.reference ≠ .off →
        ∃ t state, state = (if s.plan.trigger = .pin then EngineState.armed
            else if s.reference = .ready then .converting else .waitRef) ∧
          Takes .start s t .ok [engineByte state] ∧ SameButPort { s with engine := state, position := 0 } t))) ∧
  (∀ s : State, s.port.awaits Instr.stop.requestBytes = true →
    (s.requested ≠ none → ∃ t, Takes .stop s t .busy [0#8] ∧ SameButPort s t) ∧
    (s.requested = none → ∃ t, Takes .stop s t .ok [engineByte s.engine] ∧
      SameButPort { s with engine := .idle, position := 0 } t))

/-- REF-ON takes an OFF reference to SETTLING and leaves it otherwise (R150); REF-OFF switches it OFF when the engine is IDLE and is
refused with BUSY otherwise (R151); both report the state. -/
def Obligations.ReferenceRequestsSwitch : Prop :=
  ∀ s : State,
    (s.port.awaits Instr.refOn.requestBytes = true →
      (s.reference = .off → ∃ t, Takes .refOn s t .ok [1#8] ∧ SameButPort { s with reference := .settling } t) ∧
      (s.reference ≠ .off → ∃ t, Takes .refOn s t .ok [referenceByte s.reference] ∧ SameButPort s t)) ∧
    (s.port.awaits Instr.refOff.requestBytes = true →
      (s.engine = .idle → ∃ t, Takes .refOff s t .ok [0#8] ∧ SameButPort { s with reference := .off } t) ∧
      (s.engine ≠ .idle → ∃ t, Takes .refOff s t .busy [0#8] ∧ SameButPort s t))

/-- The settle event makes a SETTLING reference READY and starts a run waiting for it (R150, R156); in any other state it does not come,
and as a command it changes nothing (R151 where it was cancelled, the model's choice of log 2 elsewhere). A
falling edge on TRIG starts an ARMED run, and else sets the trigger overrun flag (R154); while the device is held it is ignored
(R185). -/
def Obligations.SettleAndTriggerStartRuns : Prop :=
  (∀ s : State,
    (s.reference = .settling → s.engine = .waitRef →
      exec .settleEvent s = .next { s with reference := .ready, engine := .converting, position := 0 }) ∧
    (s.reference = .settling → s.engine ≠ .waitRef → exec .settleEvent s = .next { s with reference := .ready }) ∧
    (s.reference ≠ .settling → exec .settleEvent s = .next s)) ∧
  (∀ s : State, s.held = false →
    (s.engine = .armed → s.reference = .ready →
      exec .trigFallingEdge s = .next { s with engine := .converting, position := 0 }) ∧
    (s.engine = .armed → s.reference = .settling →
      exec .trigFallingEdge s = .next { s with engine := .waitRef, position := 0 }) ∧
    (s.engine ≠ .armed → exec .trigFallingEdge s = .next { s with triggerOverrun := true })) ∧
  (∀ s : State, s.held = true → exec .trigFallingEdge s = .next s)

/-- A completion hands a sample arrival of the conversion's value, with a clear fault mark, for the channel at the position, and the
engine takes the step of R158, or goes IDLE when a mode change is pending (R159); nothing else changes. At FAST the value is four
times the 10-bit result (R157), which the model reads from the low ten bits of its operand (log 7). With no conversion in flight
the completion does not come (R160, log 2), nor does one of the supply with a value outside 1350 to 2750, which the device does not
sample while it operates; so a BELOW watch on channel 14 under that range, or an ABOVE watch over it, does not meet its condition
(R200; that such a command changes nothing is logs 2 and 7). -/
def Obligations.CompletionHandsArrival : Prop :=
  (∀ (s : State) (r : BitVec 12) (c : ChannelId) (v : Word), s.engine = .converting → s.plan.cycle[s.position]? = some c →
    v.toNat = (if s.plan.resolution = .fast then 4 * (r.toNat % 1024) else r.toNat) →
    (c = 14 → v.toNat < 1350 ∨ 2750 < v.toNat → exec (.conversionCompletion r) s = .next s) ∧
    ((c = 14 → 1350 ≤ v.toNat ∧ v.toNat ≤ 2750) →
      ∃ t, exec (.conversionCompletion r) s = .next t ∧ Arrives c v false s t ∧
        { t with slots := s.slots, joined := s.joined, channels := s.channels, port := s.port, engine := s.engine,
                 position := s.position } = s ∧
        t.port = { s.port with claim := t.port.claim } ∧
        (s.requested ≠ none → t.engine = .idle ∧ t.position = 0) ∧
        (s.requested = none → s.position + 1 < s.plan.cycle.length →
          t.engine = .converting ∧ t.position = s.position + 1) ∧
        (s.requested = none → s.position + 1 = s.plan.cycle.length → t.position = 0 ∧
          t.engine = (if s.plan.mode = .loop ∨ s.plan.mode = .priorityLoop then .converting
            else if s.plan.trigger = .pin then .armed else .idle)))) ∧
  (∀ (s : State) (r : BitVec 12), s.engine ≠ .converting → exec (.conversionCompletion r) s = .next s) ∧
  (∀ (w : Watch) (v : Word), 1350 ≤ v.toNat → v.toNat ≤ 2750 →
    (w.settings.kind = .below ∧ w.settings.levelA.toNat < 1350) ∨ (w.settings.kind = .above ∧ 2750 < w.settings.levelA.toNat) →
    w.entryTest v = false)

/-! ## The edge timing unit -/

/-- The edges and range ends that hand no sample (R164, R166, R168, R170, R171): an active edge starts a WIDTH or PERIOD measurement in
WAITING and counts in a COUNT window, up to 65535; an active edge in IDLE or before a first window, and an opposite edge outside a
WIDTH measurement, are ignored. An active edge in a WIDTH measurement, and a range end outside its measurement, do not come on the
device and change nothing here (log 2). -/
def Obligations.EdgesWithoutSample : Prop :=
  ∀ (s : State) (e : EdgeInput) (n : Nat),
    let r := s.edges.get e
    let m := (s.edgeSettings.get e).mode
    (r.state = .waiting → m ≠ .count →
      exec (.activeEdge e n) s = .next { s with edges := s.edges.set { r with state := .measuring, count := 0#16 } e }) ∧
    (r.state = .measuring → m = .count →
      exec (.activeEdge e n) s =
        .next { s with edges := s.edges.set { r with count := BitVec.ofNat 16 (min (r.count.toNat + 1) 65535) } e }) ∧
    (r.state = .idle ∨ (r.state = .waiting ∧ m = .count) ∨ (r.state = .measuring ∧ m = .width) →
      exec (.activeEdge e n) s = .next s) ∧
    (r.state ≠ .measuring ∨ m ≠ .width → exec (.oppositeEdge e n) s = .next s ∧ exec (.overflow e) s = .next s) ∧
    (r.state ≠ .measuring ∨ m ≠ .period → exec (.stall e) s = .next s)

/-- The edges and range ends that end a measurement hand one sample arrival on the input's channel (R165 to R169): an opposite edge in WIDTH
and an active edge in PERIOD a good sample of the whole periods of the measure rate that have passed, 65535 at most, when no more
than 65536 periods have passed, and an overflow or a stall a faulted sample of 65535. WIDTH, and a channel whose range ran out,
then wait; PERIOD counts on from 0. An edge sent later than 65536 periods finds that the range has run out: the faulted sample of the
range end comes first, and the edge is then ignored in WIDTH and starts a measurement in PERIOD (that one command stands for both is
log 6). The sample of a COUNT window that a tick has ended arrives with a clear fault mark, and is then no longer due (R171,
R172; that it waits as its own event is log 9); with none due WINDOW_END changes nothing (log 2). -/
def Obligations.EdgesHandSamples : Prop :=
  (∀ (s : State) (e : EdgeInput) (n : Nat) (c : Instr) (v : Word) (faulted : Bool) (after : MeasureState),
      let r := s.edges.get e
      let q := s.edgeSettings.get e
      let period := match q.rate with | .us1 => 1 | .us8 => 8 | .us64 => 64 | .us512 => 512
      r.state = .measuring →
      (c = .oppositeEdge e n ∧ q.mode = .width ∧ n ≤ 65536 * period ∧ faulted = false ∧ after = .waiting) ∨
        (c = .activeEdge e n ∧ q.mode = .period ∧ n ≤ 65536 * period ∧ faulted = false ∧ after = .measuring) ∨
        (c = .oppositeEdge e n ∧ q.mode = .width ∧ 65536 * period < n ∧ faulted = true ∧ after = .waiting) ∨
        (c = .activeEdge e n ∧ q.mode = .period ∧ 65536 * period < n ∧ faulted = true ∧ after = .measuring) ∨
        (c = .overflow e ∧ q.mode = .width ∧ faulted = true ∧ after = .waiting) ∨
        (c = .stall e ∧ q.mode = .period ∧ faulted = true ∧ after = .waiting) →
      v.toNat = (if faulted = true then 65535 else min (n / period) 65535) →
      ∃ t, exec c s = .next t ∧ Arrives (edgeChannel e) v faulted s t ∧
        t.edges = s.edges.set { r with state := after, count := 0#16 } e ∧
        { t with slots := s.slots, joined := s.joined, channels := s.channels, port := s.port, edges := s.edges } = s ∧
        t.port = { s.port with claim := t.port.claim }) ∧
  (∀ (s : State) (e : EdgeInput),
    (∀ v, (s.edges.get e).windowDue = some v →
      ∃ t, exec (.windowEnd e) s = .next t ∧ Arrives (edgeChannel e) v false s t ∧
        t.edges = s.edges.set { s.edges.get e with windowDue := none } e ∧
        { t with slots := s.slots, joined := s.joined, channels := s.channels, port := s.port, edges := s.edges } = s ∧
        t.port = { s.port with claim := t.port.claim }) ∧
    ((s.edges.get e).windowDue = none → exec (.windowEnd e) s = .next s))

/-! ## Operating modes and device reset -/

/-- MODE-REQUEST makes its checks in order (R179): BAD_ARG for a target above 2, BUSY while a change is pending, OK for the current mode,
OK with the change carried out at once from CONFIG, from HOLD or from RUN with no conversion in flight (R180, R181), and
ACCEPTED with the change recorded as pending otherwise (R182). Window samples still due arrive before the change (log 9). -/
def Obligations.ModeRequestDecides : Prop :=
  ∀ (s : State) (b : Byte), s.port.awaits (Instr.modeRequest b).requestBytes = true →
    (2 < b.toNat → ∃ t, Takes (.modeRequest b) s t .badArg [0#8, 0#8] ∧ SameButPort s t) ∧
    (b.toNat ≤ 2 → s.requested ≠ none → ∃ t, Takes (.modeRequest b) s t .busy [0#8, 0#8] ∧ SameButPort s t) ∧
    (∀ m : Mode, b = modeByte m → s.requested = none →
      (m = s.mode → ∃ t, Takes (.modeRequest b) s t .ok [b, 3#8] ∧ SameButPort s t) ∧
      (m ≠ s.mode → s.mode ≠ .run ∨ s.engine ≠ .converting →
        ∃ u t, runAll [.windowEnd .edg0, .windowEnd .edg1] s = .next u ∧ Answered (.modeRequest b) s t .ok [b, 3#8] ∧
          ModeEntered m u { t with port := u.port } ∧ t.port.claim = u.port.claim ∧ t.port.cursor = s.port.cursor) ∧
      (m ≠ s.mode → s.mode = .run → s.engine = .converting →
        ∃ t p, Takes (.modeRequest b) s t .accepted [1#8, b] ∧ p.toMode = m ∧
          SameButPort { s with requested := some p } t))

/-- A pending change is carried out after the completion that ends the wait, and not before (R183): window samples still due arrive first
(log 9). With no change pending, or with the conversion still in flight, the event does not come, and as a command it changes nothing
(log 2). -/
def Obligations.PendingModeChangeIsCarriedOut : Prop :=
  ∀ s : State,
    (∀ p, s.requested = some p → s.engine ≠ .converting →
      ∃ u t, runAll [.windowEnd .edg0, .windowEnd .edg1] s = .next u ∧ exec .modeChangeCarriedOut s = .next t ∧
        ModeEntered p.toMode u t) ∧
    (s.requested = none ∨ s.engine = .converting → exec .modeChangeCarriedOut s = .next s)

/-- SUMMARY reports the fields of R187 in the layout of R199 and clears the trigger overrun flag, and nothing else. -/
def Obligations.SummaryReportsAndClearsOverrun : Prop :=
  ∀ s : State, s.port.awaits Instr.summary.requestBytes = true →
    ∃ t, Takes .summary s t .ok
        ([modeByte s.mode, match s.requested with | none => 3#8 | some .config => 0#8 | some .hold => 2#8,
          engineByte s.engine, BitVec.ofNat 8 s.position, referenceByte s.reference, BitVec.ofNat 8 s.joined.length] ++
          (match s.pendingList with | [] => [0xFF#8, 0xFF#8] | i :: _ => wordBytes (s.handleAt i)) ++
          [BitVec.ofNat 8 ((List.finRange 64).filter fun i => (s.watchAt i).isSome).length,
           if s.triggerOverrun then 1#8 else 0#8] ++
          wordBytes s.timeBase.periodInEffect) ∧
      SameButPort { s with triggerOverrun := false } t

/-- Device reset returns every block to its reset values, with the port IDLE when CSn is high and HELD when it is low; RSTn low or the
supply below 2.7 V holds the device there until RSTn rises, or the supply rises, which is a device reset in its own right
(R185, R191, R200). That the command carries its cause, that the phase stands for the level of CSn, and that a cause of the supply
leaves the level of RSTn as it was, are log 11; that the command resets the device whatever the levels of the pins is log 18. -/
def Obligations.DeviceResetSetsResetValues : Prop :=
  (∀ (s : State) (cause : ResetCause), ∃ t, exec (.deviceReset cause) s = .next t ∧
    { t with port := State.reset.port, rstnLow := false, supplyLow := false, pending := [] } = State.reset ∧
    (s.port.phase = .idle → t.port = State.reset.port) ∧
    (s.port.phase ≠ .idle → t.port = { State.reset.port with phase := .held, miso := .zero }) ∧
    t.rstnLow = (if cause = .rstnFall then true else s.rstnLow) ∧
    t.supplyLow = (match cause with | .powerOn => false | .supplyFall => true | .rstnFall => s.supplyLow)) ∧
  (∀ s : State, exec .rstnRise s = .next { s with rstnLow := false })
end

