-- ==== Sys2Proof/Laws/Codes.lean ====
section
/-! SUPPORT. Each code reads back what its byte stands for, and an argument outside its codes is refused. -/

namespace Sys2Proof.Machine

@[simp] theorem flagOf_flagByte (b : Bool) : flagOf (flagByte b).toNat = some b := by cases b <;> rfl

theorem flagOf_none {n : Nat} (h : 1 < n) : flagOf n = none := by
  unfold flagOf
  split <;> first | omega | rfl

theorem channelOf_some {n : Nat} {c : ChannelId} (h : n = c.val) : channelOf n = some c := by
  subst h
  simp [channelOf]

theorem channelOf_none {n : Nat} (h : 14 < n) : channelOf n = none := dif_neg (by omega)

@[simp] theorem modeOf_modeByte (m : Mode) : modeOf (modeByte m).toNat = some m := by cases m <;> rfl

@[simp] theorem planModeOf_planModeByte (m : PlanMode) : planModeOf (planModeByte m).toNat = some m := by cases m <;> rfl

@[simp] theorem triggerOf_triggerByte (t : Trigger) : triggerOf (triggerByte t).toNat = some t := by cases t <;> rfl

@[simp] theorem resolutionOf_resolutionByte (r : Resolution) : resolutionOf (resolutionByte r).toNat = some r := by
  cases r <;> rfl

@[simp] theorem tagOf_setWidth (tag : BitVec 11) : tagOf (tag.setWidth 16) = some tag := by
  have h : (tag.setWidth 16).toNat = tag.toNat := by
    have := tag.isLt
    simp
    omega
  unfold tagOf
  rw [if_pos (by have := tag.isLt; simp only [h, Config.tagMax]; omega)]
  congr 1
  apply BitVec.eq_of_toNat_eq
  simp

theorem tagOf_none {w : Word} (h : 2047 < w.toNat) : tagOf w = none := if_neg (by simp only [Config.tagMax]; omega)

@[simp] theorem channelSetOf_setWidth (set : BitVec 15) : channelSetOf (set.setWidth 16) = some set := by
  unfold channelSetOf
  rw [if_neg (by simp)]
  congr 1
  apply BitVec.eq_of_toNat_eq
  simp

theorem channelSetOf_none {w : Word} (h : 32768 ≤ w.toNat) : channelSetOf w = none := by
  unfold channelSetOf
  rw [if_pos]
  have := w.isLt
  rw [BitVec.getLsbD, Nat.testBit_eq_decide_div_mod_eq]
  simp
  omega

/-- The settings of an edge channel read back from their bytes (R131). -/
theorem edgeSettingsOf_bytes (t : EdgeSettings) (h : t.gate ≠ 0#8) :
    edgeSettingsOf (edgeModeByte t.mode) (polarityByte t.polarity) (measureRateByte t.rate) t.gate = some t := by
  rcases t with ⟨m, p, r, g⟩
  cases m <;> cases p <;> cases r <;>
    simp [edgeSettingsOf, edgeModeByte, polarityByte, measureRateByte, edgeModeOf, polarityOf, measureRateOf] <;> exact h

theorem edgeSettingsOf_none {m p r g : Byte} (h : 2 < m.toNat ∨ 1 < p.toNat ∨ 3 < r.toNat ∨ g = 0#8) :
    edgeSettingsOf m p r g = none := by
  unfold edgeSettingsOf
  split
  · rename_i h1 h2 h3
    rcases h with h | h | h | h
    · unfold edgeModeOf at h1; split at h1 <;> first | omega | cases h1
    · unfold polarityOf at h2; split at h2 <;> first | omega | cases h2
    · unfold measureRateOf at h3; split at h3 <;> first | omega | cases h3
    · rw [if_pos h]
  · rfl

/-- The kind byte of a pending notice, none standing as 0. -/
theorem pendingKindByte_eq (n : Option Notice) :
    pendingKindByte n = match n with | none => 0#8 | some n => noticeKindByte n.kind := by
  cases n <;> rfl

/-- The bits of the summary byte (R199). -/
theorem summaryBits_bits (m : Mode) (change ready busy listed notify overrun : Bool) :
    let b := summaryBits m change ready busy listed notify overrun
    b.extractLsb' 6 2 = (match m with | .config => 0#2 | .run => 1#2 | .hold => 2#2) ∧
      b.getLsbD 5 = change ∧ b.getLsbD 4 = ready ∧ b.getLsbD 3 = busy ∧ b.getLsbD 2 = listed ∧ b.getLsbD 1 = notify ∧
      b.getLsbD 0 = overrun := by
  cases m <;> revert change ready busy listed notify overrun <;> decide

/-- The bits of the flag bytes of CHANNEL-READ, the notice requests and WATCH-STATUS (R197 to R199). -/
theorem flagBytes_bits (a b : Bool) :
    ∀ x ∈ [channelFlags a b, noticeFlags a b, statusFlags a b],
      x.getLsbD 0 = a ∧ x.getLsbD 1 = b ∧ ∀ k, 2 ≤ k → x.getLsbD k = false := by
  have low : ∀ x ∈ [channelFlags a b, noticeFlags a b, statusFlags a b],
      x.getLsbD 0 = a ∧ x.getLsbD 1 = b ∧ ∀ k, k < 8 → 2 ≤ k → x.getLsbD k = false := by
    revert a b
    decide
  refine fun x hx => ⟨(low x hx).1, (low x hx).2.1, fun k hk => ?_⟩
  by_cases h8 : k < 8
  · exact (low x hx).2.2 k h8 hk
  · exact BitVec.getLsbD_of_ge _ _ (by omega)

end Sys2Proof.Machine
end

