-- ==== Sys2Proof/Laws/State.lean ====
section
/-! SUPPORT. Which fields each named update of the state leaves alone: one lemma a field and update, true by rfl. -/

namespace Sys2Proof.Machine

@[simp] theorem State.mapWatches_joined (s : State) (f : SlotId → Watch → Watch) : (s.mapWatches f).joined = s.joined := rfl
@[simp] theorem State.mapWatches_notify (s : State) (f : SlotId → Watch → Watch) : (s.mapWatches f).notify = s.notify := rfl
@[simp] theorem State.mapWatches_compose (s : State) (f : SlotId → Watch → Watch) : (s.mapWatches f).compose = s.compose := rfl
@[simp] theorem State.mapWatches_timeBase (s : State) (f : SlotId → Watch → Watch) : (s.mapWatches f).timeBase = s.timeBase := rfl
@[simp] theorem State.mapWatches_channels (s : State) (f : SlotId → Watch → Watch) : (s.mapWatches f).channels = s.channels := rfl
@[simp] theorem State.mapWatches_edgeSettings (s : State) (f : SlotId → Watch → Watch) : (s.mapWatches f).edgeSettings = s.edgeSettings := rfl
@[simp] theorem State.mapWatches_plan (s : State) (f : SlotId → Watch → Watch) : (s.mapWatches f).plan = s.plan := rfl
@[simp] theorem State.mapWatches_engine (s : State) (f : SlotId → Watch → Watch) : (s.mapWatches f).engine = s.engine := rfl
@[simp] theorem State.mapWatches_position (s : State) (f : SlotId → Watch → Watch) : (s.mapWatches f).position = s.position := rfl
@[simp] theorem State.mapWatches_triggerOverrun (s : State) (f : SlotId → Watch → Watch) : (s.mapWatches f).triggerOverrun = s.triggerOverrun := rfl
@[simp] theorem State.mapWatches_reference (s : State) (f : SlotId → Watch → Watch) : (s.mapWatches f).reference = s.reference := rfl
@[simp] theorem State.mapWatches_edges (s : State) (f : SlotId → Watch → Watch) : (s.mapWatches f).edges = s.edges := rfl
@[simp] theorem State.mapWatches_mode (s : State) (f : SlotId → Watch → Watch) : (s.mapWatches f).mode = s.mode := rfl
@[simp] theorem State.mapWatches_requested (s : State) (f : SlotId → Watch → Watch) : (s.mapWatches f).requested = s.requested := rfl
@[simp] theorem State.mapWatches_port (s : State) (f : SlotId → Watch → Watch) : (s.mapWatches f).port = s.port := rfl
@[simp] theorem State.mapWatches_rstnLow (s : State) (f : SlotId → Watch → Watch) : (s.mapWatches f).rstnLow = s.rstnLow := rfl
@[simp] theorem State.mapWatches_supplyLow (s : State) (f : SlotId → Watch → Watch) : (s.mapWatches f).supplyLow = s.supplyLow := rfl
@[simp] theorem State.mapWatches_pending (s : State) (f : SlotId → Watch → Watch) : (s.mapWatches f).pending = s.pending := rfl

@[simp] theorem State.setWatch_joined (s : State) (i : SlotId) (w : Watch) : (s.setWatch i w).joined = s.joined := rfl
@[simp] theorem State.setWatch_notify (s : State) (i : SlotId) (w : Watch) : (s.setWatch i w).notify = s.notify := rfl
@[simp] theorem State.setWatch_compose (s : State) (i : SlotId) (w : Watch) : (s.setWatch i w).compose = s.compose := rfl
@[simp] theorem State.setWatch_timeBase (s : State) (i : SlotId) (w : Watch) : (s.setWatch i w).timeBase = s.timeBase := rfl
@[simp] theorem State.setWatch_channels (s : State) (i : SlotId) (w : Watch) : (s.setWatch i w).channels = s.channels := rfl
@[simp] theorem State.setWatch_edgeSettings (s : State) (i : SlotId) (w : Watch) : (s.setWatch i w).edgeSettings = s.edgeSettings := rfl
@[simp] theorem State.setWatch_plan (s : State) (i : SlotId) (w : Watch) : (s.setWatch i w).plan = s.plan := rfl
@[simp] theorem State.setWatch_engine (s : State) (i : SlotId) (w : Watch) : (s.setWatch i w).engine = s.engine := rfl
@[simp] theorem State.setWatch_position (s : State) (i : SlotId) (w : Watch) : (s.setWatch i w).position = s.position := rfl
@[simp] theorem State.setWatch_triggerOverrun (s : State) (i : SlotId) (w : Watch) : (s.setWatch i w).triggerOverrun = s.triggerOverrun := rfl
@[simp] theorem State.setWatch_reference (s : State) (i : SlotId) (w : Watch) : (s.setWatch i w).reference = s.reference := rfl
@[simp] theorem State.setWatch_edges (s : State) (i : SlotId) (w : Watch) : (s.setWatch i w).edges = s.edges := rfl
@[simp] theorem State.setWatch_mode (s : State) (i : SlotId) (w : Watch) : (s.setWatch i w).mode = s.mode := rfl
@[simp] theorem State.setWatch_requested (s : State) (i : SlotId) (w : Watch) : (s.setWatch i w).requested = s.requested := rfl
@[simp] theorem State.setWatch_port (s : State) (i : SlotId) (w : Watch) : (s.setWatch i w).port = s.port := rfl
@[simp] theorem State.setWatch_rstnLow (s : State) (i : SlotId) (w : Watch) : (s.setWatch i w).rstnLow = s.rstnLow := rfl
@[simp] theorem State.setWatch_supplyLow (s : State) (i : SlotId) (w : Watch) : (s.setWatch i w).supplyLow = s.supplyLow := rfl
@[simp] theorem State.setWatch_pending (s : State) (i : SlotId) (w : Watch) : (s.setWatch i w).pending = s.pending := rfl

@[simp] theorem State.fillSlot_joined (s : State) (i : SlotId) (w : Watch) : (s.fillSlot i w).joined = s.joined := rfl
@[simp] theorem State.fillSlot_notify (s : State) (i : SlotId) (w : Watch) : (s.fillSlot i w).notify = s.notify := rfl
@[simp] theorem State.fillSlot_compose (s : State) (i : SlotId) (w : Watch) : (s.fillSlot i w).compose = s.compose := rfl
@[simp] theorem State.fillSlot_timeBase (s : State) (i : SlotId) (w : Watch) : (s.fillSlot i w).timeBase = s.timeBase := rfl
@[simp] theorem State.fillSlot_channels (s : State) (i : SlotId) (w : Watch) : (s.fillSlot i w).channels = s.channels := rfl
@[simp] theorem State.fillSlot_edgeSettings (s : State) (i : SlotId) (w : Watch) : (s.fillSlot i w).edgeSettings = s.edgeSettings := rfl
@[simp] theorem State.fillSlot_plan (s : State) (i : SlotId) (w : Watch) : (s.fillSlot i w).plan = s.plan := rfl
@[simp] theorem State.fillSlot_engine (s : State) (i : SlotId) (w : Watch) : (s.fillSlot i w).engine = s.engine := rfl
@[simp] theorem State.fillSlot_position (s : State) (i : SlotId) (w : Watch) : (s.fillSlot i w).position = s.position := rfl
@[simp] theorem State.fillSlot_triggerOverrun (s : State) (i : SlotId) (w : Watch) : (s.fillSlot i w).triggerOverrun = s.triggerOverrun := rfl
@[simp] theorem State.fillSlot_reference (s : State) (i : SlotId) (w : Watch) : (s.fillSlot i w).reference = s.reference := rfl
@[simp] theorem State.fillSlot_edges (s : State) (i : SlotId) (w : Watch) : (s.fillSlot i w).edges = s.edges := rfl
@[simp] theorem State.fillSlot_mode (s : State) (i : SlotId) (w : Watch) : (s.fillSlot i w).mode = s.mode := rfl
@[simp] theorem State.fillSlot_requested (s : State) (i : SlotId) (w : Watch) : (s.fillSlot i w).requested = s.requested := rfl
@[simp] theorem State.fillSlot_port (s : State) (i : SlotId) (w : Watch) : (s.fillSlot i w).port = s.port := rfl
@[simp] theorem State.fillSlot_rstnLow (s : State) (i : SlotId) (w : Watch) : (s.fillSlot i w).rstnLow = s.rstnLow := rfl
@[simp] theorem State.fillSlot_supplyLow (s : State) (i : SlotId) (w : Watch) : (s.fillSlot i w).supplyLow = s.supplyLow := rfl
@[simp] theorem State.fillSlot_pending (s : State) (i : SlotId) (w : Watch) : (s.fillSlot i w).pending = s.pending := rfl

@[simp] theorem State.freeWatches_notify (s : State) (p : SlotId → Watch → Bool) : (s.freeWatches p).notify = s.notify := rfl
@[simp] theorem State.freeWatches_compose (s : State) (p : SlotId → Watch → Bool) : (s.freeWatches p).compose = s.compose := rfl
@[simp] theorem State.freeWatches_timeBase (s : State) (p : SlotId → Watch → Bool) : (s.freeWatches p).timeBase = s.timeBase := rfl
@[simp] theorem State.freeWatches_channels (s : State) (p : SlotId → Watch → Bool) : (s.freeWatches p).channels = s.channels := rfl
@[simp] theorem State.freeWatches_edgeSettings (s : State) (p : SlotId → Watch → Bool) : (s.freeWatches p).edgeSettings = s.edgeSettings := rfl
@[simp] theorem State.freeWatches_plan (s : State) (p : SlotId → Watch → Bool) : (s.freeWatches p).plan = s.plan := rfl
@[simp] theorem State.freeWatches_engine (s : State) (p : SlotId → Watch → Bool) : (s.freeWatches p).engine = s.engine := rfl
@[simp] theorem State.freeWatches_position (s : State) (p : SlotId → Watch → Bool) : (s.freeWatches p).position = s.position := rfl
@[simp] theorem State.freeWatches_triggerOverrun (s : State) (p : SlotId → Watch → Bool) : (s.freeWatches p).triggerOverrun = s.triggerOverrun := rfl
@[simp] theorem State.freeWatches_reference (s : State) (p : SlotId → Watch → Bool) : (s.freeWatches p).reference = s.reference := rfl
@[simp] theorem State.freeWatches_edges (s : State) (p : SlotId → Watch → Bool) : (s.freeWatches p).edges = s.edges := rfl
@[simp] theorem State.freeWatches_mode (s : State) (p : SlotId → Watch → Bool) : (s.freeWatches p).mode = s.mode := rfl
@[simp] theorem State.freeWatches_requested (s : State) (p : SlotId → Watch → Bool) : (s.freeWatches p).requested = s.requested := rfl
@[simp] theorem State.freeWatches_port (s : State) (p : SlotId → Watch → Bool) : (s.freeWatches p).port = s.port := rfl
@[simp] theorem State.freeWatches_rstnLow (s : State) (p : SlotId → Watch → Bool) : (s.freeWatches p).rstnLow = s.rstnLow := rfl
@[simp] theorem State.freeWatches_supplyLow (s : State) (p : SlotId → Watch → Bool) : (s.freeWatches p).supplyLow = s.supplyLow := rfl
@[simp] theorem State.freeWatches_pending (s : State) (p : SlotId → Watch → Bool) : (s.freeWatches p).pending = s.pending := rfl

@[simp] theorem State.judge_notify (s : State) (f : SlotId → Watch → Judgement) : (s.judge f).notify = s.notify := rfl
@[simp] theorem State.judge_compose (s : State) (f : SlotId → Watch → Judgement) : (s.judge f).compose = s.compose := rfl
@[simp] theorem State.judge_timeBase (s : State) (f : SlotId → Watch → Judgement) : (s.judge f).timeBase = s.timeBase := rfl
@[simp] theorem State.judge_channels (s : State) (f : SlotId → Watch → Judgement) : (s.judge f).channels = s.channels := rfl
@[simp] theorem State.judge_edgeSettings (s : State) (f : SlotId → Watch → Judgement) : (s.judge f).edgeSettings = s.edgeSettings := rfl
@[simp] theorem State.judge_plan (s : State) (f : SlotId → Watch → Judgement) : (s.judge f).plan = s.plan := rfl
@[simp] theorem State.judge_engine (s : State) (f : SlotId → Watch → Judgement) : (s.judge f).engine = s.engine := rfl
@[simp] theorem State.judge_position (s : State) (f : SlotId → Watch → Judgement) : (s.judge f).position = s.position := rfl
@[simp] theorem State.judge_triggerOverrun (s : State) (f : SlotId → Watch → Judgement) : (s.judge f).triggerOverrun = s.triggerOverrun := rfl
@[simp] theorem State.judge_reference (s : State) (f : SlotId → Watch → Judgement) : (s.judge f).reference = s.reference := rfl
@[simp] theorem State.judge_edges (s : State) (f : SlotId → Watch → Judgement) : (s.judge f).edges = s.edges := rfl
@[simp] theorem State.judge_mode (s : State) (f : SlotId → Watch → Judgement) : (s.judge f).mode = s.mode := rfl
@[simp] theorem State.judge_requested (s : State) (f : SlotId → Watch → Judgement) : (s.judge f).requested = s.requested := rfl
@[simp] theorem State.judge_rstnLow (s : State) (f : SlotId → Watch → Judgement) : (s.judge f).rstnLow = s.rstnLow := rfl
@[simp] theorem State.judge_supplyLow (s : State) (f : SlotId → Watch → Judgement) : (s.judge f).supplyLow = s.supplyLow := rfl
@[simp] theorem State.judge_pending (s : State) (f : SlotId → Watch → Judgement) : (s.judge f).pending = s.pending := rfl

@[simp] theorem State.setEntry_slots (s : State) (c : ChannelId) (e : ChannelEntry) : (s.setEntry c e).slots = s.slots := rfl
@[simp] theorem State.setEntry_joined (s : State) (c : ChannelId) (e : ChannelEntry) : (s.setEntry c e).joined = s.joined := rfl
@[simp] theorem State.setEntry_notify (s : State) (c : ChannelId) (e : ChannelEntry) : (s.setEntry c e).notify = s.notify := rfl
@[simp] theorem State.setEntry_compose (s : State) (c : ChannelId) (e : ChannelEntry) : (s.setEntry c e).compose = s.compose := rfl
@[simp] theorem State.setEntry_timeBase (s : State) (c : ChannelId) (e : ChannelEntry) : (s.setEntry c e).timeBase = s.timeBase := rfl
@[simp] theorem State.setEntry_edgeSettings (s : State) (c : ChannelId) (e : ChannelEntry) : (s.setEntry c e).edgeSettings = s.edgeSettings := rfl
@[simp] theorem State.setEntry_plan (s : State) (c : ChannelId) (e : ChannelEntry) : (s.setEntry c e).plan = s.plan := rfl
@[simp] theorem State.setEntry_engine (s : State) (c : ChannelId) (e : ChannelEntry) : (s.setEntry c e).engine = s.engine := rfl
@[simp] theorem State.setEntry_position (s : State) (c : ChannelId) (e : ChannelEntry) : (s.setEntry c e).position = s.position := rfl
@[simp] theorem State.setEntry_triggerOverrun (s : State) (c : ChannelId) (e : ChannelEntry) : (s.setEntry c e).triggerOverrun = s.triggerOverrun := rfl
@[simp] theorem State.setEntry_reference (s : State) (c : ChannelId) (e : ChannelEntry) : (s.setEntry c e).reference = s.reference := rfl
@[simp] theorem State.setEntry_edges (s : State) (c : ChannelId) (e : ChannelEntry) : (s.setEntry c e).edges = s.edges := rfl
@[simp] theorem State.setEntry_mode (s : State) (c : ChannelId) (e : ChannelEntry) : (s.setEntry c e).mode = s.mode := rfl
@[simp] theorem State.setEntry_requested (s : State) (c : ChannelId) (e : ChannelEntry) : (s.setEntry c e).requested = s.requested := rfl
@[simp] theorem State.setEntry_port (s : State) (c : ChannelId) (e : ChannelEntry) : (s.setEntry c e).port = s.port := rfl
@[simp] theorem State.setEntry_rstnLow (s : State) (c : ChannelId) (e : ChannelEntry) : (s.setEntry c e).rstnLow = s.rstnLow := rfl
@[simp] theorem State.setEntry_supplyLow (s : State) (c : ChannelId) (e : ChannelEntry) : (s.setEntry c e).supplyLow = s.supplyLow := rfl
@[simp] theorem State.setEntry_pending (s : State) (c : ChannelId) (e : ChannelEntry) : (s.setEntry c e).pending = s.pending := rfl

@[simp] theorem State.arrival_notify (s : State) (c : ChannelId) (v : Word) (b : Bool) : (s.arrival c v b).notify = s.notify := rfl
@[simp] theorem State.arrival_compose (s : State) (c : ChannelId) (v : Word) (b : Bool) : (s.arrival c v b).compose = s.compose := rfl
@[simp] theorem State.arrival_timeBase (s : State) (c : ChannelId) (v : Word) (b : Bool) : (s.arrival c v b).timeBase = s.timeBase := rfl
@[simp] theorem State.arrival_edgeSettings (s : State) (c : ChannelId) (v : Word) (b : Bool) : (s.arrival c v b).edgeSettings = s.edgeSettings := rfl
@[simp] theorem State.arrival_plan (s : State) (c : ChannelId) (v : Word) (b : Bool) : (s.arrival c v b).plan = s.plan := rfl
@[simp] theorem State.arrival_engine (s : State) (c : ChannelId) (v : Word) (b : Bool) : (s.arrival c v b).engine = s.engine := rfl
@[simp] theorem State.arrival_position (s : State) (c : ChannelId) (v : Word) (b : Bool) : (s.arrival c v b).position = s.position := rfl
@[simp] theorem State.arrival_triggerOverrun (s : State) (c : ChannelId) (v : Word) (b : Bool) : (s.arrival c v b).triggerOverrun = s.triggerOverrun := rfl
@[simp] theorem State.arrival_reference (s : State) (c : ChannelId) (v : Word) (b : Bool) : (s.arrival c v b).reference = s.reference := rfl
@[simp] theorem State.arrival_edges (s : State) (c : ChannelId) (v : Word) (b : Bool) : (s.arrival c v b).edges = s.edges := rfl
@[simp] theorem State.arrival_mode (s : State) (c : ChannelId) (v : Word) (b : Bool) : (s.arrival c v b).mode = s.mode := rfl
@[simp] theorem State.arrival_requested (s : State) (c : ChannelId) (v : Word) (b : Bool) : (s.arrival c v b).requested = s.requested := rfl
@[simp] theorem State.arrival_rstnLow (s : State) (c : ChannelId) (v : Word) (b : Bool) : (s.arrival c v b).rstnLow = s.rstnLow := rfl
@[simp] theorem State.arrival_supplyLow (s : State) (c : ChannelId) (v : Word) (b : Bool) : (s.arrival c v b).supplyLow = s.supplyLow := rfl
@[simp] theorem State.arrival_pending (s : State) (c : ChannelId) (v : Word) (b : Bool) : (s.arrival c v b).pending = s.pending := rfl

@[simp] theorem State.setEdge_slots (s : State) (e : EdgeInput) (r : EdgeRecord) : (s.setEdge e r).slots = s.slots := rfl
@[simp] theorem State.setEdge_joined (s : State) (e : EdgeInput) (r : EdgeRecord) : (s.setEdge e r).joined = s.joined := rfl
@[simp] theorem State.setEdge_notify (s : State) (e : EdgeInput) (r : EdgeRecord) : (s.setEdge e r).notify = s.notify := rfl
@[simp] theorem State.setEdge_compose (s : State) (e : EdgeInput) (r : EdgeRecord) : (s.setEdge e r).compose = s.compose := rfl
@[simp] theorem State.setEdge_timeBase (s : State) (e : EdgeInput) (r : EdgeRecord) : (s.setEdge e r).timeBase = s.timeBase := rfl
@[simp] theorem State.setEdge_channels (s : State) (e : EdgeInput) (r : EdgeRecord) : (s.setEdge e r).channels = s.channels := rfl
@[simp] theorem State.setEdge_edgeSettings (s : State) (e : EdgeInput) (r : EdgeRecord) : (s.setEdge e r).edgeSettings = s.edgeSettings := rfl
@[simp] theorem State.setEdge_plan (s : State) (e : EdgeInput) (r : EdgeRecord) : (s.setEdge e r).plan = s.plan := rfl
@[simp] theorem State.setEdge_engine (s : State) (e : EdgeInput) (r : EdgeRecord) : (s.setEdge e r).engine = s.engine := rfl
@[simp] theorem State.setEdge_position (s : State) (e : EdgeInput) (r : EdgeRecord) : (s.setEdge e r).position = s.position := rfl
@[simp] theorem State.setEdge_triggerOverrun (s : State) (e : EdgeInput) (r : EdgeRecord) : (s.setEdge e r).triggerOverrun = s.triggerOverrun := rfl
@[simp] theorem State.setEdge_reference (s : State) (e : EdgeInput) (r : EdgeRecord) : (s.setEdge e r).reference = s.reference := rfl
@[simp] theorem State.setEdge_mode (s : State) (e : EdgeInput) (r : EdgeRecord) : (s.setEdge e r).mode = s.mode := rfl
@[simp] theorem State.setEdge_requested (s : State) (e : EdgeInput) (r : EdgeRecord) : (s.setEdge e r).requested = s.requested := rfl
@[simp] theorem State.setEdge_port (s : State) (e : EdgeInput) (r : EdgeRecord) : (s.setEdge e r).port = s.port := rfl
@[simp] theorem State.setEdge_rstnLow (s : State) (e : EdgeInput) (r : EdgeRecord) : (s.setEdge e r).rstnLow = s.rstnLow := rfl
@[simp] theorem State.setEdge_supplyLow (s : State) (e : EdgeInput) (r : EdgeRecord) : (s.setEdge e r).supplyLow = s.supplyLow := rfl
@[simp] theorem State.setEdge_pending (s : State) (e : EdgeInput) (r : EdgeRecord) : (s.setEdge e r).pending = s.pending := rfl

@[simp] theorem State.tickEdges_slots (s : State) : (s.tickEdges).slots = s.slots := rfl
@[simp] theorem State.tickEdges_joined (s : State) : (s.tickEdges).joined = s.joined := rfl
@[simp] theorem State.tickEdges_notify (s : State) : (s.tickEdges).notify = s.notify := rfl
@[simp] theorem State.tickEdges_compose (s : State) : (s.tickEdges).compose = s.compose := rfl
@[simp] theorem State.tickEdges_timeBase (s : State) : (s.tickEdges).timeBase = s.timeBase := rfl
@[simp] theorem State.tickEdges_channels (s : State) : (s.tickEdges).channels = s.channels := rfl
@[simp] theorem State.tickEdges_edgeSettings (s : State) : (s.tickEdges).edgeSettings = s.edgeSettings := rfl
@[simp] theorem State.tickEdges_plan (s : State) : (s.tickEdges).plan = s.plan := rfl
@[simp] theorem State.tickEdges_engine (s : State) : (s.tickEdges).engine = s.engine := rfl
@[simp] theorem State.tickEdges_position (s : State) : (s.tickEdges).position = s.position := rfl
@[simp] theorem State.tickEdges_triggerOverrun (s : State) : (s.tickEdges).triggerOverrun = s.triggerOverrun := rfl
@[simp] theorem State.tickEdges_reference (s : State) : (s.tickEdges).reference = s.reference := rfl
@[simp] theorem State.tickEdges_mode (s : State) : (s.tickEdges).mode = s.mode := rfl
@[simp] theorem State.tickEdges_requested (s : State) : (s.tickEdges).requested = s.requested := rfl
@[simp] theorem State.tickEdges_port (s : State) : (s.tickEdges).port = s.port := rfl
@[simp] theorem State.tickEdges_rstnLow (s : State) : (s.tickEdges).rstnLow = s.rstnLow := rfl
@[simp] theorem State.tickEdges_supplyLow (s : State) : (s.tickEdges).supplyLow = s.supplyLow := rfl
@[simp] theorem State.tickEdges_pending (s : State) : (s.tickEdges).pending = s.pending := rfl

@[simp] theorem State.answer_slots (s : State) (b : List Byte) (a : Answer) : (s.answer b a).slots = s.slots := rfl
@[simp] theorem State.answer_joined (s : State) (b : List Byte) (a : Answer) : (s.answer b a).joined = s.joined := rfl
@[simp] theorem State.answer_notify (s : State) (b : List Byte) (a : Answer) : (s.answer b a).notify = s.notify := rfl
@[simp] theorem State.answer_compose (s : State) (b : List Byte) (a : Answer) : (s.answer b a).compose = s.compose := rfl
@[simp] theorem State.answer_timeBase (s : State) (b : List Byte) (a : Answer) : (s.answer b a).timeBase = s.timeBase := rfl
@[simp] theorem State.answer_channels (s : State) (b : List Byte) (a : Answer) : (s.answer b a).channels = s.channels := rfl
@[simp] theorem State.answer_edgeSettings (s : State) (b : List Byte) (a : Answer) : (s.answer b a).edgeSettings = s.edgeSettings := rfl
@[simp] theorem State.answer_plan (s : State) (b : List Byte) (a : Answer) : (s.answer b a).plan = s.plan := rfl
@[simp] theorem State.answer_engine (s : State) (b : List Byte) (a : Answer) : (s.answer b a).engine = s.engine := rfl
@[simp] theorem State.answer_position (s : State) (b : List Byte) (a : Answer) : (s.answer b a).position = s.position := rfl
@[simp] theorem State.answer_triggerOverrun (s : State) (b : List Byte) (a : Answer) : (s.answer b a).triggerOverrun = s.triggerOverrun := rfl
@[simp] theorem State.answer_reference (s : State) (b : List Byte) (a : Answer) : (s.answer b a).reference = s.reference := rfl
@[simp] theorem State.answer_edges (s : State) (b : List Byte) (a : Answer) : (s.answer b a).edges = s.edges := rfl
@[simp] theorem State.answer_mode (s : State) (b : List Byte) (a : Answer) : (s.answer b a).mode = s.mode := rfl
@[simp] theorem State.answer_requested (s : State) (b : List Byte) (a : Answer) : (s.answer b a).requested = s.requested := rfl
@[simp] theorem State.answer_rstnLow (s : State) (b : List Byte) (a : Answer) : (s.answer b a).rstnLow = s.rstnLow := rfl
@[simp] theorem State.answer_supplyLow (s : State) (b : List Byte) (a : Answer) : (s.answer b a).supplyLow = s.supplyLow := rfl
@[simp] theorem State.answer_pending (s : State) (b : List Byte) (a : Answer) : (s.answer b a).pending = s.pending := rfl

@[simp] theorem State.deliverWindow_notify (s : State) (e : EdgeInput) : (s.deliverWindow e).notify = s.notify := by
  unfold State.deliverWindow; split <;> rfl
@[simp] theorem State.deliverWindow_compose (s : State) (e : EdgeInput) : (s.deliverWindow e).compose = s.compose := by
  unfold State.deliverWindow; split <;> rfl
@[simp] theorem State.deliverWindow_timeBase (s : State) (e : EdgeInput) : (s.deliverWindow e).timeBase = s.timeBase := by
  unfold State.deliverWindow; split <;> rfl
@[simp] theorem State.deliverWindow_edgeSettings (s : State) (e : EdgeInput) : (s.deliverWindow e).edgeSettings = s.edgeSettings := by
  unfold State.deliverWindow; split <;> rfl
@[simp] theorem State.deliverWindow_plan (s : State) (e : EdgeInput) : (s.deliverWindow e).plan = s.plan := by
  unfold State.deliverWindow; split <;> rfl
@[simp] theorem State.deliverWindow_engine (s : State) (e : EdgeInput) : (s.deliverWindow e).engine = s.engine := by
  unfold State.deliverWindow; split <;> rfl
@[simp] theorem State.deliverWindow_position (s : State) (e : EdgeInput) : (s.deliverWindow e).position = s.position := by
  unfold State.deliverWindow; split <;> rfl
@[simp] theorem State.deliverWindow_triggerOverrun (s : State) (e : EdgeInput) : (s.deliverWindow e).triggerOverrun = s.triggerOverrun := by
  unfold State.deliverWindow; split <;> rfl
@[simp] theorem State.deliverWindow_reference (s : State) (e : EdgeInput) : (s.deliverWindow e).reference = s.reference := by
  unfold State.deliverWindow; split <;> rfl
@[simp] theorem State.deliverWindow_mode (s : State) (e : EdgeInput) : (s.deliverWindow e).mode = s.mode := by
  unfold State.deliverWindow; split <;> rfl
@[simp] theorem State.deliverWindow_requested (s : State) (e : EdgeInput) : (s.deliverWindow e).requested = s.requested := by
  unfold State.deliverWindow; split <;> rfl
@[simp] theorem State.deliverWindow_rstnLow (s : State) (e : EdgeInput) : (s.deliverWindow e).rstnLow = s.rstnLow := by
  unfold State.deliverWindow; split <;> rfl
@[simp] theorem State.deliverWindow_supplyLow (s : State) (e : EdgeInput) : (s.deliverWindow e).supplyLow = s.supplyLow := by
  unfold State.deliverWindow; split <;> rfl
@[simp] theorem State.deliverWindow_pending (s : State) (e : EdgeInput) : (s.deliverWindow e).pending = s.pending := by
  unfold State.deliverWindow; split <;> rfl

@[simp] theorem State.deliverWindows_notify (s : State) : s.deliverWindows.notify = s.notify := by
  simp [State.deliverWindows]
@[simp] theorem State.deliverWindows_compose (s : State) : s.deliverWindows.compose = s.compose := by
  simp [State.deliverWindows]
@[simp] theorem State.deliverWindows_timeBase (s : State) : s.deliverWindows.timeBase = s.timeBase := by
  simp [State.deliverWindows]
@[simp] theorem State.deliverWindows_edgeSettings (s : State) : s.deliverWindows.edgeSettings = s.edgeSettings := by
  simp [State.deliverWindows]
@[simp] theorem State.deliverWindows_plan (s : State) : s.deliverWindows.plan = s.plan := by
  simp [State.deliverWindows]
@[simp] theorem State.deliverWindows_engine (s : State) : s.deliverWindows.engine = s.engine := by
  simp [State.deliverWindows]
@[simp] theorem State.deliverWindows_position (s : State) : s.deliverWindows.position = s.position := by
  simp [State.deliverWindows]
@[simp] theorem State.deliverWindows_triggerOverrun (s : State) : s.deliverWindows.triggerOverrun = s.triggerOverrun := by
  simp [State.deliverWindows]
@[simp] theorem State.deliverWindows_reference (s : State) : s.deliverWindows.reference = s.reference := by
  simp [State.deliverWindows]
@[simp] theorem State.deliverWindows_mode (s : State) : s.deliverWindows.mode = s.mode := by
  simp [State.deliverWindows]
@[simp] theorem State.deliverWindows_requested (s : State) : s.deliverWindows.requested = s.requested := by
  simp [State.deliverWindows]
@[simp] theorem State.deliverWindows_rstnLow (s : State) : s.deliverWindows.rstnLow = s.rstnLow := by
  simp [State.deliverWindows]
@[simp] theorem State.deliverWindows_supplyLow (s : State) : s.deliverWindows.supplyLow = s.supplyLow := by
  simp [State.deliverWindows]
@[simp] theorem State.deliverWindows_pending (s : State) : s.deliverWindows.pending = s.pending := by
  simp [State.deliverWindows]

@[simp] theorem State.enterMode_notify (s : State) (m : Mode) : (s.enterMode m).notify = s.notify := by
  simp [State.enterMode]
@[simp] theorem State.enterMode_compose (s : State) (m : Mode) : (s.enterMode m).compose = s.compose := by
  simp [State.enterMode]
@[simp] theorem State.enterMode_edgeSettings (s : State) (m : Mode) : (s.enterMode m).edgeSettings = s.edgeSettings := by
  simp [State.enterMode]
@[simp] theorem State.enterMode_plan (s : State) (m : Mode) : (s.enterMode m).plan = s.plan := by
  simp [State.enterMode]
@[simp] theorem State.enterMode_triggerOverrun (s : State) (m : Mode) : (s.enterMode m).triggerOverrun = s.triggerOverrun := by
  simp [State.enterMode]
@[simp] theorem State.enterMode_reference (s : State) (m : Mode) : (s.enterMode m).reference = s.reference := by
  simp [State.enterMode]
@[simp] theorem State.enterMode_rstnLow (s : State) (m : Mode) : (s.enterMode m).rstnLow = s.rstnLow := by
  simp [State.enterMode]
@[simp] theorem State.enterMode_supplyLow (s : State) (m : Mode) : (s.enterMode m).supplyLow = s.supplyLow := by
  simp [State.enterMode]
@[simp] theorem State.enterMode_pending (s : State) (m : Mode) : (s.enterMode m).pending = s.pending := by
  simp [State.enterMode]

@[simp] theorem State.enterMode_mode (s : State) (m : Mode) : (s.enterMode m).mode = m := rfl
@[simp] theorem State.enterMode_requested (s : State) (m : Mode) : (s.enterMode m).requested = none := rfl
@[simp] theorem State.enterMode_engine (s : State) (m : Mode) : (s.enterMode m).engine = .idle := rfl
@[simp] theorem State.enterMode_position (s : State) (m : Mode) : (s.enterMode m).position = 0 := rfl
@[simp] theorem State.enterMode_slots (s : State) (m : Mode) : (s.enterMode m).slots = s.deliverWindows.slots := rfl
@[simp] theorem State.enterMode_joined (s : State) (m : Mode) : (s.enterMode m).joined = s.deliverWindows.joined := rfl
@[simp] theorem State.enterMode_port (s : State) (m : Mode) : (s.enterMode m).port = s.deliverWindows.port := rfl
@[simp] theorem State.enterMode_channels (s : State) (m : Mode) : (s.enterMode m).channels = s.deliverWindows.channels := rfl

@[simp] theorem State.answer_phase (s : State) (b : List Byte) (a : Answer) :
    (s.answer b a).port.phase = .answering := rfl
@[simp] theorem State.answer_received (s : State) (b : List Byte) (a : Answer) : (s.answer b a).port.received = b := rfl
@[simp] theorem State.answer_miso (s : State) (b : List Byte) (a : Answer) :
    (s.answer b a).port.miso = .result a.bytes := rfl
@[simp] theorem State.answer_claim (s : State) (b : List Byte) (a : Answer) :
    (s.answer b a).port.claim = s.port.claim := rfl
@[simp] theorem State.answer_cursor (s : State) (b : List Byte) (a : Answer) :
    (s.answer b a).port.cursor = s.port.cursor := rfl

@[simp] theorem State.judge_phase (s : State) (f : SlotId → Watch → Judgement) :
    (s.judge f).port.phase = s.port.phase := rfl
@[simp] theorem State.judge_received (s : State) (f : SlotId → Watch → Judgement) :
    (s.judge f).port.received = s.port.received := rfl
@[simp] theorem State.judge_miso (s : State) (f : SlotId → Watch → Judgement) :
    (s.judge f).port.miso = s.port.miso := rfl
@[simp] theorem State.judge_cursor (s : State) (f : SlotId → Watch → Judgement) :
    (s.judge f).port.cursor = s.port.cursor := rfl

end Sys2Proof.Machine
end

