-- ==== Sys2Proof/Laws/Frame.lean ====
section
/-! SUPPORT. The frame around a request: all that taking a request can do. -/

namespace Sys2Proof.Machine

/-- Taking a request either acts and answers, or changes nothing (R189 to R191). -/
theorem takeRequest_cases {b : List Byte} {act : State → State × Answer} {s t : State}
    (h : takeRequest b act s = .next t) :
    (s.port.awaits b = true ∧ t = (act s).1.answer b (act s).2) ∨ (s.port.awaits b = false ∧ t = s) := by
  unfold takeRequest at h
  split at h <;> cases h
  · exact .inl ⟨‹_›, rfl⟩
  · exact .inr ⟨Bool.eq_false_iff.mpr ‹_›, rfl⟩

theorem takeRequest_awaits {b : List Byte} {act : State → State × Answer} {s : State} (h : s.port.awaits b = true) :
    takeRequest b act s = .next ((act s).1.answer b (act s).2) := by
  simp [takeRequest, h]

theorem takeRequest_ignored {b : List Byte} {act : State → State × Answer} {s : State} (h : s.port.awaits b = false) :
    takeRequest b act s = .next s := by
  simp [takeRequest, h]

theorem Port.awaits_receiving {p : Port} {b : List Byte} (h : p.awaits b = true) : p.phase = .receiving := by
  simp only [Port.awaits, Bool.and_eq_true, beq_iff_eq] at h
  exact h.1.1

/-- A request that acts without touching claim and cursor is taken with its answer. -/
theorem takes_of {c : Instr} {s u : State} {a : Answer} {act : State → State × Answer}
    (he : exec c s = takeRequest c.requestBytes act s) (h : s.port.awaits c.requestBytes = true) (ha : act s = (u, a))
    (hc : u.port.claim = s.port.claim) (hr : u.port.cursor = s.port.cursor) :
    Takes c s (u.answer c.requestBytes a) a.outcome a.data where
  next := by rw [he, takeRequest_awaits h, ha]
  answering := rfl
  received := rfl
  result := rfl
  claim := hc
  cursor := hr

end Sys2Proof.Machine
end

