-- ==== Sys2Proof/Laws/Table.lean ====
section
/-! SUPPORT. What each operation on the watch table makes of every slot, what the handle check answers, and the handle's
own encoding. -/

namespace Sys2Proof.Machine

/-- One entry of a table changed throughout. -/
@[simp] theorem getElem_mapEntries {α : Type} {n : Nat} (f : Fin n → α → α) (v : Vector α n) (k : Nat)
    (h : k < n) : (mapEntries f v)[k] = f ⟨k, h⟩ v[k] := by
  simp [mapEntries]

variable (s : State)

@[simp] theorem State.watchAt_mapWatches (f : SlotId → Watch → Watch) (i : SlotId) :
    (s.mapWatches f).watchAt i = (s.watchAt i).map (f i) := by
  simp [State.mapWatches, State.watchAt]

@[simp] theorem State.generationAt_mapWatches (f : SlotId → Watch → Watch) (i : SlotId) :
    (s.mapWatches f).generationAt i = s.generationAt i := by
  simp [State.mapWatches, State.generationAt]

theorem State.watchAt_setWatch {i : SlotId} {w x : Watch} (h : s.watchAt i = some x) (j : SlotId) :
    (s.setWatch i w).watchAt j = if j = i then some w else s.watchAt j := by
  unfold State.setWatch
  rw [State.watchAt_mapWatches]
  by_cases hj : j = i
  · subst hj; simp [h]
  · simp [hj]

@[simp] theorem State.generationAt_setWatch (i j : SlotId) (w : Watch) :
    (s.setWatch i w).generationAt j = s.generationAt j := State.generationAt_mapWatches _ _ _

@[simp] theorem State.watchAt_fillSlot (i j : SlotId) (w : Watch) :
    (s.fillSlot i w).watchAt j = if j = i then some w else s.watchAt j := by
  by_cases h : j = i <;> simp [State.fillSlot, State.watchAt, h]

@[simp] theorem State.generationAt_fillSlot (i j : SlotId) (w : Watch) :
    (s.fillSlot i w).generationAt j = s.generationAt j := by
  by_cases h : j = i <;> simp [State.fillSlot, State.generationAt, h]

@[simp] theorem State.watchAt_freeWatches (p : SlotId → Watch → Bool) (i : SlotId) :
    (s.freeWatches p).watchAt i = if s.selects p i then none else s.watchAt i := by
  by_cases h : s.selects p i <;> simp [State.freeWatches, State.watchAt, h]

@[simp] theorem State.generationAt_freeWatches (p : SlotId → Watch → Bool) (i : SlotId) :
    (s.freeWatches p).generationAt i =
      if s.selects p i then s.generationAt i + 1#4 else s.generationAt i := by
  by_cases h : s.selects p i <;> simp [State.freeWatches, State.generationAt, h]

theorem State.selects_some {p : SlotId → Watch → Bool} {i : SlotId} {w : Watch} (h : s.watchAt i = some w) :
    s.selects p i = p i w := by
  simp [State.selects, h]

theorem State.selects_none {p : SlotId → Watch → Bool} {i : SlotId} (h : s.watchAt i = none) :
    s.selects p i = false := by
  simp [State.selects, h]

/-- All that an event at the watch table does to slots, list and claim (R24, R52, R53, R62). -/
theorem State.judge_judged (f : SlotId → Watch → Judgement) : Judged f s (s.judge f) where
  generations i := State.generationAt_mapWatches s _ i
  watches i := State.watchAt_mapWatches s _ i
  joined := rfl
  claim := rfl

@[simp] theorem State.watchAt_judge (f : SlotId → Watch → Judgement) (i : SlotId) :
    (s.judge f).watchAt i = (s.watchAt i).map fun w => (f i w).posted := (s.judge_judged f).watches i

@[simp] theorem State.generationAt_judge (f : SlotId → Watch → Judgement) (i : SlotId) :
    (s.judge f).generationAt i = s.generationAt i := (s.judge_judged f).generations i

/-- The handle of a slot names that slot and its generation (R15). -/
theorem handleSlot_makeHandle (g : BitVec 4) (i : SlotId) : handleSlot (makeHandle g i) = i := by
  have := g.isLt
  have := i.isLt
  apply Fin.ext
  simp only [handleSlot, makeHandle, BitVec.toNat_ofNat]
  omega

theorem handleGeneration_makeHandle (g : BitVec 4) (i : SlotId) : handleGeneration (makeHandle g i) = g := by
  have := g.isLt
  have := i.isLt
  apply BitVec.eq_of_toNat_eq
  simp only [handleGeneration, makeHandle, BitVec.toNat_ofNat]
  omega

theorem makeHandle_le (g : BitVec 4) (i : SlotId) : (makeHandle g i).toNat ≤ Config.handleMax := by
  have := g.isLt
  have := i.isLt
  simp only [makeHandle, BitVec.toNat_ofNat, Config.handleMax]
  omega

/-- The handle check accepts the handle of a live slot (R17). -/
theorem State.lookup_handleAt {i : SlotId} {w : Watch} (h : s.watchAt i = some w) :
    s.lookup (s.handleAt i) = .ok (i, w) := by
  have := makeHandle_le (s.generationAt i) i
  simp [State.lookup, State.handleAt, handleSlot_makeHandle, handleGeneration_makeHandle, h, Nat.not_lt.mpr this]

/-- All that the handle check can answer (R17). -/
theorem State.lookup_cases (handle : Word) :
    (s.lookup handle = .error .badArg ∧ Config.handleMax < handle.toNat) ∨
    (s.lookup handle = .error .stale ∧ handle.toNat ≤ Config.handleMax ∧
      (s.watchAt (handleSlot handle) = none ∨ s.generationAt (handleSlot handle) ≠ handleGeneration handle)) ∨
    (∃ w, s.lookup handle = .ok (handleSlot handle, w) ∧ s.watchAt (handleSlot handle) = some w) := by
  unfold State.lookup
  split
  · exact .inl ⟨rfl, ‹_›⟩
  · refine .inr ?_
    split
    · exact .inl ⟨rfl, by omega, .inl ‹_›⟩
    · split
      · exact .inr ⟨_, rfl, ‹_›⟩
      · exact .inl ⟨rfl, by omega, .inr ‹_›⟩

theorem State.lookup_ok {handle : Word} {i : SlotId} {w : Watch} (h : s.lookup handle = .ok (i, w)) :
    s.watchAt i = some w := by
  rcases s.lookup_cases handle with ⟨h', _⟩ | ⟨h', _⟩ | ⟨_, h', hw⟩
  · cases h.symm.trans h'
  · cases h.symm.trans h'
  · cases h.symm.trans h'; exact hw

/-- The first slot in ascending order that `p` selects. -/
theorem find_lowest {p : SlotId → Bool} {i : SlotId} (h : p i = true) (hlow : ∀ j, j < i → p j = false) :
    (List.finRange 64).find? p = some i := by
  have hm : i ∈ List.finRange 64 := List.mem_finRange i
  cases hk : (List.finRange 64).find? p with
  | none => exact absurd h (List.find?_eq_none.mp hk i hm)
  | some k =>
    obtain ⟨hp, as, bs, hs, has⟩ := List.find?_eq_some_iff_append.mp hk
    have hpw : (List.finRange 64).Pairwise (· < ·) := List.pairwise_lt_finRange 64
    rw [hs] at hpw hm
    rcases List.mem_append.mp hm with ha | hb
    · simpa [h] using has i ha
    · rcases List.mem_cons.mp hb with rfl | hb
      · rfl
      · have hki := (List.pairwise_cons.mp (List.pairwise_append.mp hpw).2.1).1 i hb
        rw [hlow k hki] at hp
        cases hp

/-- A slot found in ascending order is the first that `p` selects. -/
theorem find_first {p : SlotId → Bool} {i : SlotId} (h : (List.finRange 64).find? p = some i) :
    p i = true ∧ ∀ j, j < i → p j = false := by
  refine ⟨List.find?_some h, fun j hj => ?_⟩
  obtain ⟨_, as, bs, hs, has⟩ := List.find?_eq_some_iff_append.mp h
  have hpw : (List.finRange 64).Pairwise (· < ·) := List.pairwise_lt_finRange 64
  have hm : j ∈ List.finRange 64 := List.mem_finRange j
  rw [hs] at hpw hm
  rcases List.mem_append.mp hm with ha | hb
  · simpa using has j ha
  · rcases List.mem_cons.mp hb with rfl | hb
    · exact absurd hj (lt_irrefl _)
    · have hij := (List.pairwise_cons.mp (List.pairwise_append.mp hpw).2.1).1 j hb
      exact absurd (lt_trans hj hij) (lt_irrefl _)

/-- The lowest-numbered FREE slot (R18). -/
theorem State.lowestFree_eq {i : SlotId} (h : s.watchAt i = none) (hlow : ∀ j, j < i → (s.watchAt j).isSome = true) :
    s.lowestFree = some i :=
  find_lowest (by simp [h]) fun j hj => by have := hlow j hj; cases hw : s.watchAt j <;> simp_all

theorem State.lowestFree_some {i : SlotId} (h : s.lowestFree = some i) :
    s.watchAt i = none ∧ ∀ j, j < i → (s.watchAt j).isSome = true := by
  obtain ⟨h1, h2⟩ := find_first h
  refine ⟨by simpa using h1, fun j hj => ?_⟩
  have := h2 j hj
  cases hw : s.watchAt j <;> simp_all

/-- What a request that replaces one watch says of the next state. -/
theorem State.setWatch_onlyWatch {i : SlotId} {w x : Watch} (h : s.watchAt i = some x) (request : List Byte) (a : Answer) :
    OnlyWatch i w s ((s.setWatch i w).answer request a) where
  rest := rfl
  generations j := State.generationAt_setWatch s i j w
  watch := (State.watchAt_setWatch s h i).trans (if_pos rfl)
  others j hj := (State.watchAt_setWatch s h j).trans (if_neg hj)

/-- What a request that changes every live watch says of the next state. -/
theorem State.mapWatches_onlyWatches (f : Watch → Watch) (request : List Byte) (a : Answer) :
    OnlyWatches f s ((s.mapWatches fun _ w => f w).answer request a) where
  rest := rfl
  generations j := State.generationAt_mapWatches s _ j
  watches j := State.watchAt_mapWatches s _ j

/-- What a request that frees watches says of the next state (R16, R57). -/
theorem State.freeWatches_onlyFreed (p : SlotId → Watch → Bool) (request : List Byte) (a : Answer) :
    OnlyFreed p s ((s.freeWatches p).answer request a) where
  rest := rfl
  joined := rfl
  freed i hi := ⟨(State.watchAt_freeWatches s p i).trans (if_pos hi), (State.generationAt_freeWatches s p i).trans (if_pos hi)⟩
  kept i hi :=
    ⟨(State.watchAt_freeWatches s p i).trans (if_neg (by simp [State.selects, hi])),
     (State.generationAt_freeWatches s p i).trans (if_neg (by simp [State.selects, hi]))⟩

end Sys2Proof.Machine
end

