-- ==== Sys2Proof/Laws/Samples.lean ====
section
/-! SUPPORT. What a sample arrival, a due window sample, a tick and a change of mode do, and what the evaluator leaves of a
watch. -/

namespace Sys2Proof.Machine

variable (s : State)

theorem State.channels_setEntry (c d : ChannelId) (e : ChannelEntry) :
    (s.setEntry c e).channels[d] = if d = c then e else s.channels[d] := by
  simp [State.setEntry]

/-- All that a sample arrival does (R22, R138). -/
theorem State.arrival_arrives (c : ChannelId) (v : Word) (faulted : Bool) : Arrives c v faulted s (s.arrival c v faulted) where
  entry := (s.channels_setEntry c c _).trans (if_pos rfl)
  otherEntries d hd := (s.channels_setEntry c d _).trans (if_neg hd)
  table := ⟨State.generationAt_mapWatches _ _, State.watchAt_mapWatches _ _, rfl, rfl⟩

theorem Watch.inService_iff (w : Watch) : w.inService = true ↔ w.state ≠ .suspended ∧ w.state ≠ .expired := by
  unfold Watch.inService
  cases w.state <;> simp

@[simp] theorem Judgement.posted_settings (j : Judgement) : j.posted.settings = j.watch.settings := by
  unfold Judgement.posted
  split <;> rfl

/-- The evaluator leaves a watch's settings and notice; the notice changes by a posting alone (R52). -/
theorem evaluate_keeps (c : ChannelId) (v : Word) (faulted : Bool) (w : Watch) :
    (evaluate c v faulted w).watch.settings = w.settings ∧ (evaluate c v faulted w).watch.notice = w.notice := by
  unfold evaluate
  split_ifs
  · exact ⟨rfl, rfl⟩
  · cases hs : w.state <;> cases hk : w.settings.kind <;>
      simp only [Watch.goodSample, hs, hk, Watch.qualify, Watch.act, Judgement.unchanged] <;> (try split_ifs) <;>
      exact ⟨by trivial, by trivial⟩
  · exact ⟨rfl, rfl⟩

theorem Watch.tick_keeps (w : Watch) : w.tick.watch.settings = w.settings ∧ w.tick.watch.notice = w.notice := by
  unfold Watch.tick
  split_ifs <;> exact ⟨rfl, rfl⟩

/-- A tick at one watch, case by case (R79, R80). -/
theorem Watch.tick_eq (w : Watch) :
    w.tick =
      if w.settings.lease = 0#16 ∨ w.state = .expired then .unchanged w
      else if 2 ≤ w.leaseRemaining.toNat then .unchanged { w with leaseRemaining := w.leaseRemaining - 1#16 }
      else w.expire := by
  have hc : w.counting = true ↔ ¬ (w.settings.lease = 0#16 ∨ w.state = .expired) := by
    simp [Watch.counting, Watch.isExpired]
  unfold Watch.tick
  simp only [hc, ite_not]
  split_ifs <;> first | rfl | omega

/-- A delivered window sample is no longer due, and the other input's record stays (log 9). -/
theorem State.deliverWindow_due (e : EdgeInput) :
    ((s.deliverWindow e).edges.get e).windowDue = none ∧
      ∀ f, f ≠ e → (s.deliverWindow e).edges.get f = s.edges.get f := by
  unfold State.deliverWindow
  cases h : (s.edges.get e).windowDue with
  | none => exact ⟨h, fun _ _ => rfl⟩
  | some v => cases e <;> exact ⟨rfl, fun f hf => by cases f <;> first | rfl | exact absurd rfl hf⟩

theorem State.deliverWindows_due (e : EdgeInput) : (s.deliverWindows.edges.get e).windowDue = none := by
  unfold State.deliverWindows
  cases e
  · rw [((s.deliverWindow .edg0).deliverWindow_due .edg1).2 .edg0 (by decide)]
    exact (s.deliverWindow_due .edg0).1
  · exact (State.deliverWindow_due _ .edg1).1

variable {s} in
/-- With no window sample due, none is delivered. -/
theorem State.deliverWindows_none (h : ∀ e, (s.edges.get e).windowDue = none) : s.deliverWindows = s := by
  have one : ∀ e, s.deliverWindow e = s := fun e => by
    unfold State.deliverWindow
    rw [h]
  unfold State.deliverWindows
  rw [one, one]

variable {s} in
/-- A change of mode with no window sample due (R180, R181, R183). -/
theorem State.enterMode_entered (h : ∀ e, (s.edges.get e).windowDue = none) (m : Mode) : ModeEntered m s (s.enterMode m) := by
  unfold State.enterMode
  rw [State.deliverWindows_none h]
  refine ⟨rfl, rfl, ⟨rfl, rfl⟩, fun e => ?_, ?_, rfl⟩
  · cases m <;> cases e <;> simp [State.changedEdges, PerEdge.get, EdgeRecord.started, EdgeRecord.stopped]
  · show TimeBase.changeMode _ _ _ = _
    unfold TimeBase.changeMode
    cases hm : s.mode <;> cases m <;> simp

/-- Whether a live watch names a channel (R133). -/
theorem State.namesChannel_iff (c : ChannelId) : s.namesChannel c = true ↔ s.Named c := by
  unfold State.namesChannel State.Named
  rw [List.any_eq_true]
  constructor
  · rintro ⟨i, _, h⟩
    cases hw : s.watchAt i with
    | none => simp [State.selects, hw] at h
    | some w => exact ⟨i, w, hw, by simpa [State.selects, hw] using h⟩
  · rintro ⟨i, w, hw, h⟩
    exact ⟨i, List.mem_finRange i, by simp [State.selects, hw, h]⟩

theorem State.contains_iff (c : ChannelId) : s.plan.contains c = true ↔ s.Contained c := by
  simp [SweepPlan.contains, State.Contained]

/-- The value a conversion delivers (R157). -/
theorem deliveredValue_toNat (q : Resolution) (r : BitVec 12) :
    (deliveredValue q r).toNat = if q = .fast then 4 * (r.toNat % 1024) else r.toNat := by
  have := r.isLt
  cases q <;> simp [deliveredValue] <;> omega

/-- The value a measurement hands (R165). -/
theorem measuredCount_toNat (rate : MeasureRate) (elapsed : Nat) :
    (measuredCount rate elapsed).toNat = min (elapsed / rateMicroseconds rate) 65535 := by
  exact Nat.mod_eq_of_lt (by rw [Config.edgeMax]; omega)

theorem rangeRanOut_iff (rate : MeasureRate) (elapsed : Nat) :
    rangeRanOut rate elapsed = true ↔ 65536 * rateMicroseconds rate < elapsed := decide_eq_true_iff

end Sys2Proof.Machine
end

