-- ==== Sys2Proof/Laws/Invariants.lean ====
section
/-! SUPPORT. What keeps a watch sound, and the watch table, the pending list and the compose buffer in agreement. -/

namespace Sys2Proof.Machine

/-! ## One watch -/

section Watch

variable {w : Watch}

theorem Watch.Sound.reload (h : w.Sound) (he : w.state ≠ .expired) : w.reload.Sound := by
  obtain ⟨a, b, c, d, _, f, g, i, j, k⟩ := h
  exact ⟨a, b, c, d, by simp [Watch.reload, he], f, g, i, j, k⟩

theorem Watch.Sound.suspended (h : w.Sound) (he : w.state ≠ .expired) : w.suspended.Sound := by
  have hn : w.notice.map (·.kind) ≠ some .expiry := fun hc => he (h.expiredNotice.mpr hc)
  have hl := h.leaseCount
  rw [if_neg he] at hl
  refine ⟨h.dwellRange, h.stepRange, h.bandLevel, ?_, ?_, ?_, ?_, h.referenceOfDelta, ?_, ?_⟩ <;>
    simp [Watch.suspended]
  · exact hl
  · simpa using hn

theorem Watch.Sound.resumed (h : w.Sound) (he : w.state ≠ .expired) : w.resumed.Sound := by
  have hn : w.notice.map (·.kind) ≠ some .expiry := fun hc => he (h.expiredNotice.mpr hc)
  have hl := h.leaseCount
  rw [if_neg he] at hl
  refine ⟨h.dwellRange, h.stepRange, h.bandLevel, ?_, ?_, ?_, ?_, ?_, ?_, ?_⟩ <;>
    simp [Watch.resumed, Watch.forgotten]
  · exact hl
  · simpa using hn

theorem Watch.Sound.amended (h : w.Sound) (he : w.state ≠ .expired) (t : Settings) (hd : 1 ≤ t.dwell ∧ t.dwell ≤ 64)
    (hs : t.step ≠ 0#16) (hb : t.levelB.isSome = t.kind.isBand) : (w.amended t).Sound := by
  obtain ⟨_, _, _, d, e, f, g, i, j, k⟩ := h
  unfold Watch.amended
  split_ifs with hc
  · cases hst : w.state <;> (refine ⟨hd, hs, hb, ?_, ?_, ?_, ?_, ?_, ?_, ?_⟩ <;> simp_all [keptState])
  · cases hst : w.state <;>
      (refine ⟨hd, hs, hb, ?_, ?_, ?_, ?_, ?_, ?_, ?_⟩ <;> simp_all [Watch.forgotten, rearmedState])

theorem Watch.Sound.expire (h : w.Sound) (hl : w.settings.lease ≠ 0#16) : w.expire.posted.Sound := by
  obtain ⟨a, b, c, d, e, f, g, i, j, k⟩ := h
  refine ⟨a, b, c, ?_, ?_, ?_, ?_, i, ?_, ?_⟩ <;> simp_all [Watch.expire, Judgement.posted]

theorem Watch.Sound.tick (h : w.Sound) : w.tick.posted.Sound := by
  rw [Watch.tick_eq]
  split_ifs with h1 h2
  · exact h
  · rw [not_or] at h1
    have hl := h.leaseCount
    rw [if_neg h1.2] at hl
    refine ⟨h.dwellRange, h.stepRange, h.bandLevel, h.dwellCount, ?_, h.expiredNotice, h.neverTrippedDelta,
      h.referenceOfDelta, h.armingHistory, h.judgedReference⟩
    refine (if_neg h1.2).mpr ⟨?_, fun _ hc => ?_⟩
    · show (w.leaseRemaining - 1#16).toNat ≤ w.settings.lease.toNat
      have := hl.1
      bv_omega
    · have hz : w.leaseRemaining - 1#16 = 0#16 := hc
      have := congrArg BitVec.toNat hz
      bv_omega
  · exact h.expire (not_or.mp h1).1

theorem Watch.Sound.faultedSample (h : w.Sound) (he : w.state ≠ .expired) : w.faultedSample.posted.Sound := by
  obtain ⟨a, b, c, d, e, f, g, i, j, k⟩ := h
  unfold Watch.faultedSample Judgement.posted
  cases hs : w.state <;> cases hf : w.faultMark <;> (refine ⟨a, b, c, ?_, ?_, ?_, ?_, i, ?_, ?_⟩ <;> simp_all)

end Watch

/-! ## The table -/

section Table

variable {s t : State}

theorem State.TableSound.of_eq (h : s.TableSound) (hs : t.slots = s.slots) (hj : t.joined = s.joined)
    (hc : t.compose = s.compose) : t.TableSound := by
  have hw : ∀ i, t.watchAt i = s.watchAt i := fun i => by simp [State.watchAt, hs]
  refine ⟨fun i w h' => h.watches i w ((hw i).symm.trans h'), hj ▸ h.joinedOnce, fun i => ?_, hc ▸ h.bufferDwell, hc ▸ h.bufferStep⟩
  rw [hj, hw]
  exact h.listed i

/-- An event at the watch table keeps it sound when it keeps every watch sound, and posts every notice it makes. -/
theorem State.TableSound.judge (h : s.TableSound) (f : SlotId → Watch → Judgement)
    (hf : ∀ i w, w.Sound → (f i w).posted.Sound ∧ (f i w).watch.notice = w.notice) : (s.judge f).TableSound := by
  have hj := s.judge_judged f
  have hn : ∀ i w, s.watchAt i = some w →
      ((f i w).posted.notice = none ↔ w.notice = none ∧ (f i w).posting = none) := by
    intro i w hw
    have := (hf i w (h.watches i w hw)).2
    unfold Judgement.posted
    split <;> simp_all
  refine ⟨fun i w hw => ?_, ?_, fun i => ?_, h.bufferDwell, h.bufferStep⟩
  · rw [hj.watches] at hw
    obtain ⟨x, hx, rfl⟩ := Option.map_eq_some_iff.mp hw
    exact (hf i x (h.watches i x hx)).1
  · rw [hj.joined]
    refine List.nodup_append.mpr ⟨h.joinedOnce, (List.nodup_finRange 64).filter _, ?_⟩
    rintro a ha _ hb rfl
    obtain ⟨w, hw, hne⟩ := (h.listed a).mp ha
    have := (List.mem_filter.mp hb).2
    simp [hw] at this
    exact hne this.2
  · rw [hj.joined, hj.watches, List.mem_append, h.listed i]
    cases hw : s.watchAt i with
    | none => simp [hw]
    | some w =>
      simp [hw, hn i w hw]
      cases w.notice <;> cases (f i w).posting <;> simp

/-- Freeing watches keeps the table sound. -/
theorem State.TableSound.free (h : s.TableSound) (p : SlotId → Watch → Bool) : (s.freeWatches p).TableSound := by
  refine ⟨fun i w hw => ?_, h.joinedOnce.filter _, fun i => ?_, h.bufferDwell, h.bufferStep⟩
  · rw [State.watchAt_freeWatches] at hw
    split_ifs at hw
    exact h.watches i w hw
  · show i ∈ s.joined.filter _ ↔ _
    rw [List.mem_filter, h.listed i, State.watchAt_freeWatches]
    by_cases hs : s.selects p i = true <;> simp [hs]

end Table

end Sys2Proof.Machine
end

