-- ==== Sys2Proof/Laws/Pending.lean ====
section
/-! SUPPORT. What the pending list holds, and its head. -/

namespace Sys2Proof.Machine

variable {s : State}

theorem State.mem_joined_of_pendingList {i : SlotId} (h : i ∈ s.pendingList) : i ∈ s.joined := by
  obtain ⟨p, _, h⟩ := List.mem_flatMap.mp h
  exact (List.mem_filter.mp h).1

/-- The list holds exactly the slots that joined (R50). -/
theorem State.mem_pendingList (h : s.TableSound) {i : SlotId} : i ∈ s.pendingList ↔ i ∈ s.joined := by
  refine ⟨State.mem_joined_of_pendingList, fun hi => ?_⟩
  obtain ⟨w, hw, _⟩ := (h.listed i).mp hi
  have every : ∀ p : Fin 8, p ∈ [7, 6, 5, 4, 3, 2, 1, (0 : Fin 8)] := by decide
  exact List.mem_flatMap.mpr ⟨w.settings.priority, every _, List.mem_filter.mpr ⟨hi, by simp [State.priorityAt, hw]⟩⟩

/-- The head of a list that is not empty is a live watch with a notice (R50, R51). -/
theorem State.head_cons (h : s.TableSound) {i : SlotId} {rest : List SlotId} (hl : s.pendingList = i :: rest) :
    ∃ w n, s.watchAt i = some w ∧ w.notice = some n ∧ s.head = some (i, w, n) := by
  have hi : i ∈ s.joined := State.mem_joined_of_pendingList (by simp [hl])
  obtain ⟨w, hw, hn⟩ := (h.listed i).mp hi
  obtain ⟨n, hn⟩ := Option.ne_none_iff_exists'.mp hn
  exact ⟨w, n, hw, hn, by simp [State.head, hl, hw, hn]⟩

theorem State.head_nil (hl : s.pendingList = []) : s.head = none := by simp [State.head, hl]

end Sys2Proof.Machine
end

