-- ==== Sys2Proof/Laws/PerInstr.lean ====
section
/-! SUPPORT. What holds of every command as syntax, one lemma for each constructor. -/

namespace Sys2Proof.Laws.RequestFraming

/-- The request bytes of a well-formed request are as many as the request table gives its code (R189, R196), so the frame
rules and the commands agree on which byte is the last request byte. -/
def Statement (i : Instr) : Prop :=
  i.wellFormed = true → ∀ code rest, i.requestBytes = code :: rest → i.requestBytes.length = requestLength code

theorem composeClear : Statement .composeClear := by
  intro _ c rest hb
  obtain ⟨rfl, -⟩ := List.cons.inj hb
  rfl

theorem composeWrite (field : Byte) (value : Word) : Statement (.composeWrite field value) := by
  intro _ c rest hb
  obtain ⟨rfl, -⟩ := List.cons.inj hb
  rfl

theorem composeRead (field : Byte) : Statement (.composeRead field) := by
  intro _ c rest hb
  obtain ⟨rfl, -⟩ := List.cons.inj hb
  rfl

theorem load (handle : Word) : Statement (.load handle) := by
  intro _ c rest hb
  obtain ⟨rfl, -⟩ := List.cons.inj hb
  rfl

theorem create : Statement .create := by
  intro _ c rest hb
  obtain ⟨rfl, -⟩ := List.cons.inj hb
  rfl

theorem amend (handle : Word) : Statement (.amend handle) := by
  intro _ c rest hb
  obtain ⟨rfl, -⟩ := List.cons.inj hb
  rfl

theorem retire (handle : Word) : Statement (.retire handle) := by
  intro _ c rest hb
  obtain ⟨rfl, -⟩ := List.cons.inj hb
  rfl

theorem renew (handle : Word) : Statement (.renew handle) := by
  intro _ c rest hb
  obtain ⟨rfl, -⟩ := List.cons.inj hb
  rfl

theorem suspend (handle : Word) : Statement (.suspend handle) := by
  intro _ c rest hb
  obtain ⟨rfl, -⟩ := List.cons.inj hb
  rfl

theorem resume (handle : Word) : Statement (.resume handle) := by
  intro _ c rest hb
  obtain ⟨rfl, -⟩ := List.cons.inj hb
  rfl

theorem watchStatus (handle : Word) : Statement (.watchStatus handle) := by
  intro _ c rest hb
  obtain ⟨rfl, -⟩ := List.cons.inj hb
  rfl

theorem resetTable : Statement .resetTable := by
  intro _ c rest hb
  obtain ⟨rfl, -⟩ := List.cons.inj hb
  rfl

theorem renewTagged (tag mask : Word) : Statement (.renewTagged tag mask) := by
  intro _ c rest hb
  obtain ⟨rfl, -⟩ := List.cons.inj hb
  rfl

theorem suspendTagged (tag mask : Word) : Statement (.suspendTagged tag mask) := by
  intro _ c rest hb
  obtain ⟨rfl, -⟩ := List.cons.inj hb
  rfl

theorem resumeTagged (tag mask : Word) : Statement (.resumeTagged tag mask) := by
  intro _ c rest hb
  obtain ⟨rfl, -⟩ := List.cons.inj hb
  rfl

theorem retireTagged (tag mask : Word) : Statement (.retireTagged tag mask) := by
  intro _ c rest hb
  obtain ⟨rfl, -⟩ := List.cons.inj hb
  rfl

theorem countTagged (tag mask : Word) : Statement (.countTagged tag mask) := by
  intro _ c rest hb
  obtain ⟨rfl, -⟩ := List.cons.inj hb
  rfl

theorem findFirst (tag mask : Word) : Statement (.findFirst tag mask) := by
  intro _ c rest hb
  obtain ⟨rfl, -⟩ := List.cons.inj hb
  rfl

theorem findNext : Statement .findNext := by
  intro _ c rest hb
  obtain ⟨rfl, -⟩ := List.cons.inj hb
  rfl

theorem noticePeek : Statement .noticePeek := by
  intro _ c rest hb
  obtain ⟨rfl, -⟩ := List.cons.inj hb
  rfl

theorem noticeTake : Statement .noticeTake := by
  intro _ c rest hb
  obtain ⟨rfl, -⟩ := List.cons.inj hb
  rfl

theorem notifySet (enable threshold : Byte) : Statement (.notifySet enable threshold) := by
  intro _ c rest hb
  obtain ⟨rfl, -⟩ := List.cons.inj hb
  rfl

theorem channelSet (channel enabled edgeMode polarity rate gate : Byte) : Statement (.channelSet channel enabled edgeMode polarity rate gate) := by
  intro _ c rest hb
  obtain ⟨rfl, -⟩ := List.cons.inj hb
  rfl

theorem channelGet (channel : Byte) : Statement (.channelGet channel) := by
  intro _ c rest hb
  obtain ⟨rfl, -⟩ := List.cons.inj hb
  rfl

theorem channelRead (channel : Byte) : Statement (.channelRead channel) := by
  intro _ c rest hb
  obtain ⟨rfl, -⟩ := List.cons.inj hb
  rfl

theorem planSet (mode single : Byte) (members priorities : Word) (trigger resolution : Byte) : Statement (.planSet mode single members priorities trigger resolution) := by
  intro _ c rest hb
  obtain ⟨rfl, -⟩ := List.cons.inj hb
  rfl

theorem planGet : Statement .planGet := by
  intro _ c rest hb
  obtain ⟨rfl, -⟩ := List.cons.inj hb
  rfl

theorem start : Statement .start := by
  intro _ c rest hb
  obtain ⟨rfl, -⟩ := List.cons.inj hb
  rfl

theorem stop : Statement .stop := by
  intro _ c rest hb
  obtain ⟨rfl, -⟩ := List.cons.inj hb
  rfl

theorem refOn : Statement .refOn := by
  intro _ c rest hb
  obtain ⟨rfl, -⟩ := List.cons.inj hb
  rfl

theorem refOff : Statement .refOff := by
  intro _ c rest hb
  obtain ⟨rfl, -⟩ := List.cons.inj hb
  rfl

theorem modeRequest (target : Byte) : Statement (.modeRequest target) := by
  intro _ c rest hb
  obtain ⟨rfl, -⟩ := List.cons.inj hb
  rfl

theorem summary : Statement .summary := by
  intro _ c rest hb
  obtain ⟨rfl, -⟩ := List.cons.inj hb
  rfl

theorem timebaseSet (period : Word) : Statement (.timebaseSet period) := by
  intro _ c rest hb
  obtain ⟨rfl, -⟩ := List.cons.inj hb
  rfl

theorem timebaseGet : Statement .timebaseGet := by
  intro _ c rest hb
  obtain ⟨rfl, -⟩ := List.cons.inj hb
  rfl

theorem unknownCode (code : Byte) : Statement (.unknownCode code) := by
  intro h c rest hb
  obtain ⟨rfl, -⟩ := List.cons.inj hb
  have hn : requestRow code = none := by simpa [Instr.wellFormed] using h
  simp [Instr.requestBytes, requestLength, hn]

theorem csnFall : Statement .csnFall := by
  intro _ c rest hb
  cases hb

theorem csnRise : Statement .csnRise := by
  intro _ c rest hb
  cases hb

theorem noticeTakeRemoval : Statement .noticeTakeRemoval := by
  intro _ c rest hb
  cases hb

theorem conversionCompletion (result : BitVec 12) : Statement (.conversionCompletion result) := by
  intro _ c rest hb
  cases hb

theorem settleEvent : Statement .settleEvent := by
  intro _ c rest hb
  cases hb

theorem trigFallingEdge : Statement .trigFallingEdge := by
  intro _ c rest hb
  cases hb

theorem activeEdge (input : EdgeInput) (elapsed : Nat) : Statement (.activeEdge input elapsed) := by
  intro _ c rest hb
  cases hb

theorem oppositeEdge (input : EdgeInput) (elapsed : Nat) : Statement (.oppositeEdge input elapsed) := by
  intro _ c rest hb
  cases hb

theorem overflow (input : EdgeInput) : Statement (.overflow input) := by
  intro _ c rest hb
  cases hb

theorem stall (input : EdgeInput) : Statement (.stall input) := by
  intro _ c rest hb
  cases hb

theorem intervalExpiry : Statement .intervalExpiry := by
  intro _ c rest hb
  cases hb

theorem leaseExpiry (slot : SlotId) : Statement (.leaseExpiry slot) := by
  intro _ c rest hb
  cases hb

theorem windowEnd (input : EdgeInput) : Statement (.windowEnd input) := by
  intro _ c rest hb
  cases hb

theorem modeChangeCarriedOut : Statement .modeChangeCarriedOut := by
  intro _ c rest hb
  cases hb

theorem deviceReset (cause : ResetCause) : Statement (.deviceReset cause) := by
  intro _ c rest hb
  cases hb

theorem rstnRise : Statement .rstnRise := by
  intro _ c rest hb
  cases hb

theorem requestByteArrival (byte : Byte) : Statement (.requestByteArrival byte) := by
  intro _ c rest hb
  cases hb

theorem lastResultByteEnd : Statement .lastResultByteEnd := by
  intro _ c rest hb
  cases hb

end Sys2Proof.Laws.RequestFraming
end

