-- ==== Sys2Proof/Laws/Plans.lean ====
section
/-! SUPPORT. What check 3 of PLAN-SET admits, and what the engine may then convert and sample. -/

namespace Sys2Proof.Machine

theorem State.convertible_iff (s : State) (c : ChannelId) :
    s.convertible c = true ↔ s.channels[c].enabled = true ∧ c ≠ 12 ∧ c ≠ 13 := by
  have h : (channelKind c != .edge) = true ↔ c ≠ 12 ∧ c ≠ 13 := by
    revert c
    decide
  rw [State.convertible, Bool.and_eq_true, h]

theorem mem_channelsOf (set : BitVec 15) (c : ChannelId) : c ∈ channelsOf set ↔ set.getLsbD c.val = true := by
  simp [channelsOf]

theorem channelsOf_eq_nil (set : BitVec 15) : channelsOf set = [] ↔ set = 0#15 := by
  refine ⟨fun h => BitVec.eq_of_getLsbD_eq fun k hk => ?_, fun h => by simp [h, channelsOf]⟩
  have : (⟨k, hk⟩ : ChannelId) ∉ channelsOf set := by simp [h]
  rw [mem_channelsOf] at this
  simpa using this

theorem all_channelsOf (set : BitVec 15) (p : ChannelId → Bool) :
    (channelsOf set).all p = true ↔ ∀ c : ChannelId, set.getLsbD c.val = true → p c = true := by
  simp only [List.all_eq_true, mem_channelsOf]

theorem disjoint_sets (a b : BitVec 15) :
    a &&& b = 0#15 ↔ ∀ c : ChannelId, ¬ (a.getLsbD c.val = true ∧ b.getLsbD c.val = true) := by
  refine ⟨fun h c hc => ?_, fun h => BitVec.eq_of_getLsbD_eq fun k hk => ?_⟩
  · have := congrArg (fun x : BitVec 15 => x.getLsbD c.val) h
    rw [BitVec.getLsbD_and, hc.1, hc.2, BitVec.getLsbD_zero] at this
    cases this
  · rw [BitVec.getLsbD_and, BitVec.getLsbD_zero, Bool.eq_false_iff, ne_eq, Bool.and_eq_true]
    exact h ⟨k, hk⟩

/-- Check 3 of PLAN-SET, mode by mode (R146). -/
theorem State.admits_iff (s : State) (p : SweepPlan) :
    s.admits p = true ↔
      (p.mode = .one → s.convertible p.single = true) ∧
      (p.mode ≠ .one → p.members ≠ 0#15 ∧ ∀ c : ChannelId, p.members.getLsbD c.val = true → s.convertible c = true) ∧
      (p.mode = .priorityLoop →
        p.priorities ≠ 0#15 ∧ (channelsOf p.priorities).length ≤ 4 ∧
          (∀ c : ChannelId, p.priorities.getLsbD c.val = true → s.convertible c = true) ∧
          ∀ c : ChannelId, ¬ (p.members.getLsbD c.val = true ∧ p.priorities.getLsbD c.val = true)) := by
  unfold State.admits
  cases p.mode <;>
    simp only [Bool.and_eq_true, Bool.not_eq_true', List.isEmpty_eq_false_iff, ne_eq, channelsOf_eq_nil, all_channelsOf,
      decide_eq_true_eq, beq_iff_eq, disjoint_sets, reduceCtorEq, not_false_eq_true, not_true_eq_false, false_implies, true_implies, and_true,
      true_and]
  tauto

/-- A plan that check 3 admits converts only enabled channels of ANALOG or SUPPLY kind (R146, R147). -/
theorem State.admits_planned {s : State} {p : SweepPlan} (h : s.admits p = true) :
    ∀ c ∈ p.cycle, s.channels[c].enabled = true ∧ c ≠ 12 ∧ c ≠ 13 := by
  obtain ⟨h1, h2, h3⟩ := s.admits_iff p |>.mp h
  intro c hc
  rw [← s.convertible_iff]
  cases hm : p.mode <;> simp only [SweepPlan.cycle, hm] at hc
  · rw [List.mem_singleton] at hc
    exact hc ▸ h1 hm
  · exact (h2 (by simp [hm])).2 c ((mem_channelsOf _ _).mp hc)
  · exact (h2 (by simp [hm])).2 c ((mem_channelsOf _ _).mp hc)
  · simp only [List.mem_flatMap, List.mem_append, List.mem_singleton, mem_channelsOf] at hc
    obtain ⟨m, hmem, hc | rfl⟩ := hc
    · exact (h3 hm).2.2.1 c hc
    · exact (h2 (by simp [hm])).2 c hmem

theorem sampleable_iff (c : ChannelId) (v : Word) :
    sampleable c v = true ↔ (c = 14 → 1350 ≤ v.toNat ∧ v.toNat ≤ 2750) := by
  have h : (channelKind c != .supply) = true ↔ c ≠ 14 := by
    revert c
    decide
  rw [sampleable, Bool.or_eq_true, h, decide_eq_true_eq, Config.supplyMin, Config.supplyMax]
  tauto

end Sys2Proof.Machine
end

