-- ==== Sys2Proof/Laws/Requests.lean ====
section
/-! SUPPORT. Every request command in one form: the frame around the request's own action (R189 to R191). -/

namespace Sys2Proof.Machine

/-- A command that is no request is not taken: it does nothing here. -/
def notTaken (s : State) : State × Answer := (s, zeroAnswer .unknown 0)

/-- What a request command does once it is taken. -/
def requestAct : Instr → State → State × Answer
  | .composeClear => composeClear
  | .composeWrite f v => composeWrite f v
  | .composeRead f => composeRead f
  | .load h => load h
  | .create => create
  | .amend h => amend h
  | .retire h => retire h
  | .renew h => renew h
  | .suspend h => suspend h
  | .resume h => resume h
  | .watchStatus h => watchStatus h
  | .resetTable => resetTable
  | .renewTagged t m => tagged t m 2 renewTagged
  | .suspendTagged t m => tagged t m 1 suspendTagged
  | .resumeTagged t m => tagged t m 1 resumeTagged
  | .retireTagged t m => tagged t m 1 retireTagged
  | .countTagged t m => tagged t m 3 countTagged
  | .findFirst t m => findFirst t m
  | .findNext => findNext
  | .noticePeek => noticePeek
  | .noticeTake => noticeTake
  | .notifySet e t => notifySet e t
  | .channelSet c e m p r g => channelSet c e m p r g
  | .channelGet c => channelGet c
  | .channelRead c => channelRead c
  | .planSet m c ms ps t r => planSet m c ms ps t r
  | .planGet => planGet
  | .start => start
  | .stop => stop
  | .refOn => refOn
  | .refOff => refOff
  | .modeRequest b => modeRequest b
  | .summary => summary
  | .timebaseSet p => timebaseSet p
  | .timebaseGet => timebaseGet
  | .unknownCode _ => unknownCode
  | .csnFall => notTaken
  | .csnRise => notTaken
  | .noticeTakeRemoval => notTaken
  | .conversionCompletion _ => notTaken
  | .settleEvent => notTaken
  | .trigFallingEdge => notTaken
  | .activeEdge _ _ => notTaken
  | .oppositeEdge _ _ => notTaken
  | .overflow _ => notTaken
  | .stall _ => notTaken
  | .intervalExpiry => notTaken
  | .leaseExpiry _ => notTaken
  | .windowEnd _ => notTaken
  | .modeChangeCarriedOut => notTaken
  | .deviceReset _ => notTaken
  | .rstnRise => notTaken
  | .requestByteArrival _ => notTaken
  | .lastResultByteEnd => notTaken

@[simp] theorem wellFormed_unknownCode (code : Byte) : (Instr.unknownCode code).wellFormed = (requestRow code).isNone := rfl

/-- A well-formed request command is its action in the frame around a request. -/
theorem exec_request {c : Instr} (hw : c.wellFormed = true) (hb : c.requestBytes ≠ []) (s : State) :
    exec c s = takeRequest c.requestBytes (requestAct c) s := by
  cases c
  case unknownCode code => exact if_pos hw
  all_goals first | rfl | exact absurd rfl hb

/-- A request that is taken acts and is answered. -/
theorem exec_awaits {c : Instr} {s : State} (hw : c.wellFormed = true) (h : s.port.awaits c.requestBytes = true) :
    exec c s = .next ((requestAct c s).1.answer c.requestBytes (requestAct c s).2) := by
  have hb : c.requestBytes ≠ [] := by
    intro hn
    simp [Port.awaits, hn] at h
  rw [exec_request hw hb, takeRequest_awaits h]

/-- What answering a request says, read from its action. -/
theorem answered_awaits {c : Instr} {s u : State} {a : Answer} (hw : c.wellFormed = true)
    (h : s.port.awaits c.requestBytes = true) (ha : requestAct c s = (u, a)) :
    Answered c s (u.answer c.requestBytes a) a.outcome a.data where
  next := by rw [exec_awaits hw h, ha]
  answering := rfl
  received := rfl
  result := rfl

/-- What taking a request says, read from its action. -/
theorem takes_awaits {c : Instr} {s u : State} {a : Answer} (hw : c.wellFormed = true)
    (h : s.port.awaits c.requestBytes = true) (ha : requestAct c s = (u, a)) (hc : u.port.claim = s.port.claim)
    (hr : u.port.cursor = s.port.cursor) :
    Takes c s (u.answer c.requestBytes a) a.outcome a.data where
  toAnswered := answered_awaits hw h ha
  claim := hc
  cursor := hr

/-- A request in any phase but RECEIVING changes nothing (R189, R191). -/
theorem exec_notReceiving {c : Instr} {s : State} (hb : c.requestBytes ≠ []) (h : s.port.phase ≠ .receiving) :
    exec c s = .next s := by
  by_cases hw : c.wellFormed = true
  · rw [exec_request hw hb]
    exact takeRequest_ignored (Bool.eq_false_iff.mpr fun ha => h (Port.awaits_receiving ha))
  · cases c
    case unknownCode code => exact if_neg hw
    all_goals exact absurd rfl hw

/-! ## Requests from their bytes -/

/-- The framing of every request, from its lemma at each constructor (R189, R196). -/
theorem requestBytes_length {c : Instr} (hw : c.wellFormed = true) {code : Byte} {rest : List Byte}
    (hb : c.requestBytes = code :: rest) : c.requestBytes.length = requestLength code := by
  have : Laws.RequestFraming.Statement c := by
    cases c
    case unknownCode code => exact Laws.RequestFraming.unknownCode code
    all_goals
      intro _ _ _ h
      first
        | (cases h; done)
        | (obtain ⟨rfl, -⟩ := List.cons.inj h; rfl)
  exact this hw code rest hb

@[simp] theorem byteWord_wordBytes (w : Word) : byteWord (w.extractLsb' 8 8) (w.extractLsb' 0 8) = w := by
  unfold byteWord
  ext k hk
  simp
  grind

theorem wordBytes_byteWord (a b : Byte) : wordBytes (byteWord a b) = [a, b] := by
  unfold wordBytes byteWord
  refine congrArg₂ (fun x y => [x, y]) ?_ ?_ <;>
    · ext k hk
      simp
      try grind

theorem requestOf_listed {code : Byte} {arguments : List Byte} (h : (requestRow code).isSome = true) :
    requestOf (code :: arguments) = (requestsWith arguments).lookup code := if_pos h

/-- A request is recognized from its own bytes (R196). -/
theorem requestOf_requestBytes {c : Instr} (hw : c.wellFormed = true) (hb : c.requestBytes ≠ []) :
    requestOf c.requestBytes = some c := by
  cases c
  case unknownCode code =>
    have : requestRow code = none := Option.isNone_iff_eq_none.mp hw
    simp [Instr.requestBytes, requestOf, this]
  all_goals first
    | exact absurd rfl hb
    | (refine (requestOf_listed (by decide)).trans ?_
       simp [requestsWith, wordBytes, List.lookup])

theorem requestsWith_bytes (arguments : List Byte) :
    ∀ x ∈ requestsWith arguments, x.2.requestBytes = x.1 :: arguments ∧ x.2.wellFormed = true := by
  unfold requestsWith
  split <;> simp only [List.forall_mem_cons, List.not_mem_nil, false_implies, implies_true, and_true]
  all_goals
    repeat' apply And.intro
    all_goals first | rfl | simp [Instr.requestBytes, wordBytes_byteWord]

/-- Bytes that spell a request are the request's own (R196). -/
theorem requestOf_some {bytes : List Byte} {c : Instr} (h : requestOf bytes = some c) :
    c.requestBytes = bytes ∧ c.wellFormed = true := by
  cases bytes with
  | nil => cases h
  | cons code arguments =>
    simp only [requestOf] at h
    split_ifs at h with hr ha
    · obtain ⟨l, r, hl, _⟩ := List.lookup_eq_some_iff.mp h
      exact requestsWith_bytes arguments (code, c) (by simp [hl])
    · cases h
      exact ⟨by rw [ha]; rfl, by simpa using hr⟩

/-- The command port hands a recognized request to its own meaning. -/
theorem recognized_eq {c : Instr} (hb : c.requestBytes ≠ []) (s : State) : recognized c s = exec c s := by
  cases c <;> first | rfl | exact absurd rfl hb

/-- The frame awaits a request that its bytes have begun, with at least the last one still to come (R189). -/
theorem Port.awaits_iff (p : Port) (request : List Byte) :
    p.awaits request = true ↔ p.phase = .receiving ∧ ∃ rest, rest ≠ [] ∧ request = p.received ++ rest := by
  simp only [Port.awaits, Bool.and_eq_true, beq_iff_eq, decide_eq_true_eq, List.isPrefixOf_iff_prefix, and_assoc]
  refine and_congr_right fun _ => ⟨?_, ?_⟩
  · rintro ⟨hl, rest, rfl⟩
    exact ⟨rest, by rintro rfl; simp at hl, rfl⟩
  · rintro ⟨rest, hne, rfl⟩
    exact ⟨by simpa using List.length_pos_iff.mpr hne, rest, rfl⟩

/-- A request byte is ignored, is counted, or is the last byte of a request and takes it (R189). -/
theorem requestByteArrival_cases (b : Byte) (s : State) :
    exec (.requestByteArrival b) s = .next s ∨
    (s.port.phase = .receiving ∧ (s.port.received ++ [b]).length < frameLength (s.port.received ++ [b]) ∧
      exec (.requestByteArrival b) s =
        .next { s with port := { s.port with received := s.port.received ++ [b], miso := .summary s.summaryByte } }) ∨
    ∃ c, c.requestBytes = s.port.received ++ [b] ∧ c.wellFormed = true ∧ s.port.awaits c.requestBytes = true ∧
      exec (.requestByteArrival b) s = exec c s := by
  rw [show exec (.requestByteArrival b) s = execRequestByteArrival b s from rfl]
  unfold execRequestByteArrival
  dsimp only
  split_ifs with h1 h2
  · exact .inr (.inl ⟨h1, h2, rfl⟩)
  · cases h : requestOf (s.port.received ++ [b]) with
    | none => exact .inl rfl
    | some c =>
      obtain ⟨hb, hw⟩ := requestOf_some h
      have hne : c.requestBytes ≠ [] := by simp [hb]
      refine .inr (.inr ⟨c, hb, hw, ?_, recognized_eq hne s⟩)
      rw [Port.awaits_iff]
      exact ⟨h1, [b], by simp, hb⟩
  · exact .inl rfl

/-- The last byte of a request takes it as the request's command does (R189, R196). -/
theorem requestByteArrival_last {c : Instr} {b : Byte} {s : State} (hw : c.wellFormed = true)
    (hp : s.port.phase = .receiving) (hb : s.port.received ++ [b] = c.requestBytes) :
    exec (.requestByteArrival b) s = exec c s := by
  have hne : c.requestBytes ≠ [] := by simp [← hb]
  have hl : ¬ c.requestBytes.length < frameLength c.requestBytes := by
    cases hr : c.requestBytes with
    | nil => exact absurd hr hne
    | cons code rest =>
      have := requestBytes_length hw hr
      rw [hr] at this
      exact this.ge.not_gt
  rw [show exec (.requestByteArrival b) s = execRequestByteArrival b s from rfl]
  unfold execRequestByteArrival
  dsimp only
  rw [hb, if_pos hp, if_neg hl, requestOf_requestBytes hw hne]
  exact recognized_eq hne s

end Sys2Proof.Machine
end

