-- ==== Sys2Proof/Tests/Slice0.lean ====
section
/-! SUPPORT. Tests of single steps on small states, with the values of the spec's own examples where it has one, and for
every statement with hypotheses a state and operands that meet them. -/

open Sys2Proof Sys2Proof.Machine

namespace Sys2Proof.Tests

set_option maxRecDepth 8000

/-! ## States -/

/-- The same state in a frame that has just begun. -/
def listening (s : State) : State := { s with port := { s.port with phase := .receiving, miso := .summary s.summaryByte } }

/-- What `f` reads from the next state. -/
def after {α : Type} (f : State → α) : StepOutcome → Option α
  | .next t => some (f t)
  | .fault _ => none
  | .refused _ => none

/-- The result bytes of a request, code and arguments taken in a frame that has just begun. -/
def bytesOf (c : Instr) (s : State) : Option Miso := after (·.port.miso) (exec c (listening s))

/-- Slot 4 of section 12.7: an ABOVE watch one tick before its lease lapses. -/
def level : Watch :=
  { settings := { owner := 261#11, channel := 0, kind := .above, levelA := 3000#16, levelB := none, hysteresis := 0#10,
                  dwell := 1, step := 1#16, priority := 4, lease := 7#16 }
    state := .quiet, dwellCount := 0, leaseRemaining := 1#16, lastValue := some 812#16, reference := none,
    faultMark := false, notice := none }

/-- Slot 5 of section 12.7: a DELTA watch with an untaken STEP. -/
def delta : Watch :=
  { settings := { owner := 261#11, channel := 1, kind := .delta, levelA := 0#16, levelB := none, hysteresis := 0#10,
                  dwell := 1, step := 40#16, priority := 4, lease := 7#16 }
    state := .quiet, dwellCount := 0, leaseRemaining := 1#16, lastValue := some 1904#16, reference := some 1904#16,
    faultMark := false, notice := some { kind := .step, value := 1904#16, coalesced := false } }

/-- The watch of slot 5 after its lease has lapsed. -/
def lapsed : Watch :=
  { delta with state := .expired, leaseRemaining := 0#16
               notice := some { kind := .expiry, value := 1904#16, coalesced := true } }

/-- A device in RUN with channels 0, 1 and 12 enabled, a period of 5000 ms and notification on at threshold 4. -/
def running : State :=
  let on : ChannelEntry := { ChannelEntry.atReset with enabled := true }
  { ((State.reset.setEntry 0 on).setEntry 1 on).setEntry 12 on with
    mode := .run
    timeBase := { periodSetting := 5000#16, periodInEffect := 5000#16, countdown := some 5000#16 }
    edges := { edg0 := { EdgeRecord.stopped with state := .waiting }, edg1 := EdgeRecord.stopped }
    notify := { enable := true, threshold := 4 } }

/-- The device of section 12.7 before its last tick. -/
def bench : State := { (running.fillSlot 4 level).fillSlot 5 delta with joined := [5] }

/-- The same with slot 5 EXPIRED. -/
def expired : State := { (running.fillSlot 4 level).fillSlot 5 lapsed with joined := [5] }

/-- A device that converts channel 0 and then channel 1 in a LOOP. -/
def sweeping : State :=
  { bench with
    plan := { mode := .loop, single := 0, members := 3#15, priorities := 0#15, trigger := .command, resolution := .full,
              accepted := true }
    reference := .ready, engine := .converting, position := 0 }

/-- A device that converts channel 14 once. -/
def supplied : State :=
  { sweeping with
    plan := { sweeping.plan with mode := .one, single := 14 }
    channels := sweeping.channels.set 14 { ChannelEntry.atReset with enabled := true } }

/-- A device in RUN whose edge channel 12 measures in `mode`. -/
def measuring (mode : EdgeMode) : State :=
  { running with
    edgeSettings := { running.edgeSettings with edg0 := { EdgeSettings.atReset with mode := mode, rate := .us8 } }
    edges := { running.edges with edg0 := { EdgeRecord.stopped with state := .measuring } } }

/-- A frame that answers NOTICE-TAKE with a take claim. -/
def answering (s : State) (claim : Option TakeClaim) : State :=
  { s with port := { s.port with phase := .answering, received := [0x42#8], miso := .result [], claim := claim } }

/-! ## Well-formedness -/

theorem test_unknownCode_refusesListedCode : (Instr.unknownCode 0x11#8).wellFormed = false := by decide
theorem test_unknownCode_acceptsUnlistedCode : (Instr.unknownCode 0xFF#8).wellFormed = true := by decide

/-! ## Requests -/

theorem test_composeClear :
    after (fun t => (t.port.miso, t.compose))
      (exec .composeClear (listening { State.reset with compose := { ComposeBuffer.defaults with dwell := 9 } })) =
    some (.result [0x00#8], ComposeBuffer.defaults) := by decide
theorem test_composeWrite_dwell :
    after (fun t => (t.port.miso, t.compose)) (exec (.composeWrite 6#8 64#16) (listening State.reset)) =
    some (.result [0x00#8, 6#8, 0#8, 64#8], { ComposeBuffer.defaults with dwell := 64 }) := by decide
theorem test_composeWrite_dwellTooLong :
    bytesOf (.composeWrite 6#8 65#16) State.reset = some (.result [0x06#8, 0#8, 0#8, 0#8]) := by decide
theorem test_composeRead : bytesOf (.composeRead 7#8) State.reset = some (.result [0x00#8, 7#8, 0#8, 1#8]) := by decide
theorem test_load_expired :
    after (fun t => (t.port.miso, t.compose.step, t.compose.lease)) (exec (.load 5#16) (listening expired)) =
    some (.result [0x00#8, 6#8], 40#16, 7#16) := by decide
theorem test_create_handle69 :
    let s := { running.fillSlot 0 level with compose := { ComposeBuffer.defaults with lease := 7#16 } }
    let s := { s with slots := s.slots.set 1 { generation := 1#4, watch := none } }
    after (fun t => (t.port.miso, (t.watchAt 1).map fun w => (w.state, w.leaseRemaining))) (exec .create (listening s)) =
    some (.result [0x00#8, 0#8, 65#8, 0#8], some (.arming, 7#16)) := by decide
theorem test_create_channelNotEnabled :
    bytesOf .create State.reset = some (.result [0x05#8, 0xFF#8, 0xFF#8, 1#8]) := by decide
theorem test_amend_newKind :
    let s := { bench with compose := { ComposeBuffer.defaults with kind := .below, lease := 3#16 } }
    after (fun t => (t.port.miso, (t.watchAt 4).map fun w => (w.state, w.lastValue))) (exec (.amend 4#16) (listening s)) =
    some (.result [0x00#8, 0#8, 1#8, 0#8, 3#8], some (.arming, none)) := by decide
theorem test_retire :
    after (fun t => (t.port.miso, t.watchAt 5, t.generationAt 5, t.joined)) (exec (.retire 5#16) (listening bench)) =
    some (.result [0x00#8, 3#8], none, 1#4, []) := by decide
theorem test_renew :
    after (fun t => (t.port.miso, (t.watchAt 4).map (·.leaseRemaining))) (exec (.renew 4#16) (listening bench)) =
    some (.result [0x00#8, 0#8, 7#8], some 7#16) := by decide
theorem test_renew_expired : bytesOf (.renew 5#16) expired = some (.result [0x09#8, 0#8, 0#8]) := by decide
theorem test_suspend :
    after (fun t => (t.port.miso, (t.watchAt 4).map (·.state))) (exec (.suspend 4#16) (listening bench)) =
    some (.result [0x00#8, 2#8], some .suspended) := by decide
theorem test_resume :
    after (fun t => (t.port.miso, (t.watchAt 4).map fun w => (w.state, w.lastValue)))
      (exec (.resume 4#16) (listening (running.fillSlot 4 { level with state := .suspended }))) =
    some (.result [0x00#8, 5#8], some (.arming, none)) := by decide
theorem test_watchStatus :
    bytesOf (.watchStatus 5#16) bench =
    some (.result [0x00#8, 2#8, 1#8, 5#8, 1#8, 4#8, 4#8, 0#8, 0#8, 1#8, 7#8, 112#8, 1#8, 3#8]) := by decide
theorem test_watchStatus_stale : bytesOf (.watchStatus 69#16) bench = some (.result (3#8 :: List.replicate 13 0#8)) := by decide
theorem test_resetTable :
    after (fun t => (t.port.miso, t.watchAt 4, t.generationAt 4, t.generationAt 6, t.joined)) (exec .resetTable (listening bench)) =
    some (.result [0x00#8, 2#8, 1#8], none, 1#4, 0#4, []) := by decide
theorem test_renewTagged :
    after (fun t => (t.port.miso, (t.watchAt 4).map (·.leaseRemaining))) (exec (.renewTagged 261#16 2047#16) (listening expired)) =
    some (.result [0x00#8, 1#8, 1#8], some 7#16) := by decide
theorem test_suspendTagged :
    after (fun t => (t.port.miso, (t.watchAt 4).map (·.state), (t.watchAt 5).map (·.state)))
      (exec (.suspendTagged 261#16 2047#16) (listening expired)) =
    some (.result [0x00#8, 1#8], some .suspended, some .expired) := by decide
theorem test_resumeTagged :
    after (fun t => (t.port.miso, (t.watchAt 4).map (·.state)))
      (exec (.resumeTagged 0#16 0#16) (listening (running.fillSlot 4 { level with state := .suspended }))) =
    some (.result [0x00#8, 1#8], some .arming) := by decide
theorem test_retireTagged :
    after (fun t => (t.port.miso, t.generationAt 4, t.joined)) (exec (.retireTagged 261#16 2047#16) (listening bench)) =
    some (.result [0x00#8, 2#8], 1#4, []) := by decide
theorem test_countTagged :
    bytesOf (.countTagged 256#16 1792#16) expired = some (.result [0x00#8, 2#8, 1#8, 1#8]) := by decide
theorem test_findFirst :
    after (fun t => (t.port.miso, t.port.cursor)) (exec (.findFirst 261#16 2047#16) (listening bench)) =
    some (.result [0x00#8, 0#8, 4#8, 1#8, 5#8, 2#8],
      some { tag := 261#11, mask := 2047#11, position := .reported 4 }) := by decide
theorem test_findNext_noSearch :
    bytesOf .findNext bench = some (.result [0x02#8, 0xFF#8, 0xFF#8, 0#8, 0#8, 0#8]) := by decide
theorem test_noticePeek :
    bytesOf .noticePeek expired =
    some (.result [0x00#8, 0#8, 5#8, 1#8, 5#8, 5#8, 7#8, 112#8, 1#8, 6#8]) := by decide
theorem test_noticeTake :
    after (fun t => (t.port.claim, t.joined)) (exec .noticeTake (listening expired)) =
    some (some { slot := 5, generation := 0#4 }, [5]) := by decide
theorem test_notifySet :
    after (fun t => (t.port.miso, t.notify, t.notifyAsserted)) (exec (.notifySet 1#8 5#8) (listening bench)) =
    some (.result [0x00#8, 1#8, 5#8], { enable := true, threshold := 5 }, false) := by decide
theorem test_channelSet_edge :
    after (fun t => (t.port.miso, t.channels[12].enabled, t.edgeSettings.edg0))
      (exec (.channelSet 12#8 1#8 2#8 1#8 3#8 10#8) (listening State.reset)) =
    some (.result [0x00#8, 1#8, 1#8, 2#8, 1#8, 3#8, 10#8], true,
      { mode := .count, polarity := .falling, rate := .us512, gate := 10#8 }) := by decide
theorem test_channelSet_inUse :
    bytesOf (.channelSet 0#8 0#8 0#8 0#8 0#8 0#8) { bench with mode := .config } =
    some (.result [0x0A#8, 0#8, 0#8, 0#8, 0#8, 0#8, 0#8]) := by decide
theorem test_channelGet : bytesOf (.channelGet 14#8) State.reset =
    some (.result [0x00#8, 2#8, 0#8, 0#8, 0#8, 0#8, 0#8]) := by decide
theorem test_channelRead :
    let s := bench.setEntry 0 { enabled := true, latest := 0x1234#16, sequence := 7#8, fresh := true, faultMark := false }
    after (fun t => (t.port.miso, t.channels[0].fresh)) (exec (.channelRead 0#8) (listening s)) =
    some (.result [0x00#8, 0x12#8, 0x34#8, 7#8, 1#8], false) := by decide
theorem test_planSet_badArg :
    bytesOf (.planSet 0#8 0#8 0x8000#16 0#16 0#8 0#8) State.reset = some (.result [0x06#8, 0#8]) := by decide
theorem test_planSet_loop :
    after (fun t => (t.port.miso, t.plan.accepted))
      (exec (.planSet 2#8 0#8 3#16 0#16 0#8 0#8) (listening { running with mode := .config })) =
    some (.result [0x00#8, 2#8], true) := by decide
theorem test_planGet : bytesOf .planGet State.reset =
    some (.result [0x00#8, 0#8, 0#8, 0#8, 0#8, 0#8, 0#8, 0#8, 0#8, 0#8, 1#8]) := by decide
theorem test_start :
    after (fun t => (t.port.miso, t.engine)) (exec .start (listening { sweeping with engine := .idle, reference := .settling })) =
    some (.result [0x00#8, 2#8], .waitRef) := by decide
theorem test_stop :
    after (fun t => (t.port.miso, t.engine)) (exec .stop (listening sweeping)) = some (.result [0x00#8, 3#8], .idle) := by decide
theorem test_refOn :
    after (fun t => (t.port.miso, t.reference)) (exec .refOn (listening State.reset)) = some (.result [0x00#8, 1#8], .settling) := by decide
theorem test_refOff_busy : bytesOf .refOff sweeping = some (.result [0x08#8, 0#8]) := by decide
theorem test_modeRequest_run :
    after (fun t => (t.port.miso, t.mode, t.timeBase.countdown))
      (exec (.modeRequest 1#8) (listening State.reset)) =
    some (.result [0x00#8, 1#8, 3#8], .run, some 1000#16) := by decide
theorem test_modeRequest_accepted :
    after (fun t => (t.port.miso, t.mode, t.requested)) (exec (.modeRequest 2#8) (listening sweeping)) =
    some (.result [0x01#8, 1#8, 2#8], .run, some .hold) := by decide
theorem test_summary :
    bytesOf .summary { sweeping with triggerOverrun := true } =
    some (.result [0x00#8, 1#8, 3#8, 3#8, 0#8, 2#8, 1#8, 0#8, 5#8, 2#8, 1#8, 0x13#8, 0x88#8]) := by decide
theorem test_timebaseSet :
    after (fun t => (t.port.miso, t.timeBase)) (exec (.timebaseSet 5000#16) (listening State.reset)) =
    some (.result [0x00#8, 0x13#8, 0x88#8, 0x03#8, 0xE8#8],
      { periodSetting := 5000#16, periodInEffect := 1000#16, countdown := none }) := by decide
theorem test_timebaseGet : bytesOf .timebaseGet bench =
    some (.result [0x00#8, 0x13#8, 0x88#8, 0x13#8, 0x88#8]) := by decide
theorem test_unknownCode : bytesOf (.unknownCode 0xFF#8) bench = some (.result [0x0C#8]) := by decide

/-! ## The frame -/

theorem test_csnFall :
    after (fun t => (t.port.phase, t.port.miso)) (exec .csnFall sweeping) =
    some (.receiving, .summary 0b01011110#8) := by decide
theorem test_csnRise_clearsClaim :
    after (fun t => (t.port.phase, t.port.claim, t.joined)) (exec .csnRise (answering bench (some { slot := 5, generation := 0#4 }))) =
    some (.idle, none, [5]) := by decide
theorem test_noticeTakeRemoval_freesExpired :
    after (fun t => (t.port.phase, t.watchAt 5, t.generationAt 5, t.joined))
      (exec .noticeTakeRemoval (answering expired (some { slot := 5, generation := 0#4 }))) =
    some (.trailing, none, 1#4, []) := by decide
theorem test_noticeTakeRemoval_step :
    after (fun t => (t.watchAt 5, t.notifyAsserted)) (exec .noticeTakeRemoval (answering bench (some { slot := 5, generation := 0#4 }))) =
    some (some { delta with notice := none }, false) := by decide
theorem test_requestByteArrival :
    after (fun t => (t.port.phase, t.port.received)) (exec (.requestByteArrival 0x14#8) (listening bench)) =
    some (.receiving, [0x14#8]) := by decide
theorem test_requestByteArrival_lastTakesRequest :
    exec (.requestByteArrival 0x63#8) (listening bench) = exec .start (listening bench) ∧
    after (fun t => (t.port.phase, t.port.received, t.port.miso)) (exec (.requestByteArrival 0x63#8) (listening State.reset)) =
      some (.answering, [0x63#8], .result [0x07#8, 0#8]) := ⟨rfl, by decide⟩
theorem test_lastResultByteEnd :
    let s := { bench with port := { bench.port with phase := .answering, received := [0x64#8], miso := .result [0#8, 0#8] } }
    after (fun t => (t.port.phase, t.port.miso)) (exec .lastResultByteEnd s) = some (.trailing, .zero) := by decide

/-! ## Events -/

theorem test_conversionCompletion :
    after (fun t => (t.channels[0].latest, t.channels[0].sequence, t.position, (t.watchAt 4).map (·.state), t.pendingList))
      (exec (.conversionCompletion 3050#12) sweeping) =
    some (3050#16, 1#8, 1, some .tripped, [5, 4]) := by decide
theorem test_conversionCompletion_supplyOutOfRange :
    exec (.conversionCompletion 1349#12) supplied = .next supplied ∧
    after (·.channels[14].latest) (exec (.conversionCompletion 1350#12) supplied) = some 1350#16 ∧
    after (·.channels[14].latest) (exec (.conversionCompletion 2750#12) supplied) = some 2750#16 ∧
    exec (.conversionCompletion 2751#12) supplied = .next supplied := ⟨rfl, by decide, by decide, rfl⟩
theorem test_settleEvent :
    after (fun t => (t.reference, t.engine)) (exec .settleEvent { sweeping with reference := .settling, engine := .waitRef }) =
    some (.ready, .converting) := by decide
theorem test_trigFallingEdge_overrun :
    after (fun t => (t.engine, t.triggerOverrun)) (exec .trigFallingEdge sweeping) = some (.converting, true) := by decide
theorem test_activeEdge_period :
    after (fun t => (t.channels[12].latest, t.edges.edg0.state)) (exec (.activeEdge .edg0 200000) (measuring .period)) =
    some (25000#16, .measuring) := by decide
theorem test_activeEdge_afterStall :
    after (fun t => (t.channels[12].latest, t.channels[12].faultMark, t.edges.edg0.state, t.edges.edg0.count))
      (exec (.activeEdge .edg0 524289) (measuring .period)) =
    some (65535#16, true, .measuring, 0#16) := by decide
theorem test_oppositeEdge_width :
    after (fun t => (t.channels[12].latest, t.edges.edg0.state)) (exec (.oppositeEdge .edg0 15) (measuring .width)) =
    some (1#16, .waiting) := by decide
theorem test_oppositeEdge_range :
    after (fun t => (t.channels[12].latest, t.channels[12].faultMark)) (exec (.oppositeEdge .edg0 524288) (measuring .width)) =
      some (65535#16, false) ∧
    exec (.oppositeEdge .edg0 524289) (measuring .width) = exec (.overflow .edg0) (measuring .width) := ⟨by decide, rfl⟩
theorem test_overflow :
    after (fun t => (t.channels[12].latest, t.channels[12].faultMark, t.edges.edg0.state)) (exec (.overflow .edg0) (measuring .width)) =
    some (65535#16, true, .waiting) := by decide
theorem test_stall :
    after (fun t => (t.channels[12].latest, t.channels[12].faultMark, t.edges.edg0.state)) (exec (.stall .edg0) (measuring .period)) =
    some (65535#16, true, .waiting) := by decide
theorem test_intervalExpiry_missedHeartbeat :
    after (fun t => ((t.watchAt 4).map fun w => (w.state, w.leaseRemaining, w.notice), t.watchAt 5, t.pendingList))
      (exec .intervalExpiry bench) =
    some (some (.expired, 0#16, some { kind := .expiry, value := 812#16, coalesced := false }), some lapsed, [5, 4]) := by decide
theorem test_leaseExpiry :
    after (fun t => (t.watchAt 4, t.watchAt 5, t.pendingList)) (exec (.leaseExpiry 5) bench) =
    some (some level, some lapsed, [5]) := by decide
theorem test_windowEnd :
    let s := measuring .count
    let s := { s with edges := { s.edges with edg0 := { s.edges.edg0 with gateCountdown := 1#8, windowDue := some 42#16 } } }
    after (fun t => (t.channels[12].latest, t.edges.edg0.windowDue)) (exec (.windowEnd .edg0) s) = some (42#16, none) := by decide
theorem test_modeChangeCarriedOut :
    after (fun t => (t.mode, t.requested, t.timeBase.countdown))
      (exec .modeChangeCarriedOut { sweeping with engine := .idle, requested := some .config }) =
    some (.config, none, none) := by decide
theorem test_deviceReset :
    exec (.deviceReset .rstnFall) { sweeping with pending := [.start] } =
    .next { State.reset with rstnLow := true, pending := [.start] } := rfl
theorem test_rstnRise :
    exec .rstnRise { State.reset with rstnLow := true } = .next State.reset := rfl
theorem test_step_idlesOnEmptyQueue : step bench = .next bench := rfl
theorem test_decodeTableWord : decodeTableWord 8 0x11 = none := by decide

/-! ## What meets the hypotheses of the statements -/

/-- The state a next state holds, `s` for any other outcome. -/
def resultOf (o : StepOutcome) (s : State) : State :=
  match o with
  | .next t => t
  | .fault _ => s
  | .refused _ => s

theorem level_sound : level.Sound := by constructor <;> decide
theorem delta_sound : delta.Sound := by constructor <;> decide
theorem lapsed_sound : lapsed.Sound := by constructor <;> decide

/-- A table of watches known slot by slot is sound. -/
theorem tableSound_of {s : State} (hw : ∀ i, s.watchAt i = none ∨ s.watchAt i = some level ∨ s.watchAt i = some delta ∨
      s.watchAt i = some lapsed) (hn : s.joined.Nodup)
    (hl : ∀ i, i ∈ s.joined ↔ ((s.watchAt i).any fun w => w.notice.isSome) = true)
    (hd : 1 ≤ s.compose.dwell ∧ s.compose.dwell ≤ 64) (hs : s.compose.step ≠ 0#16) : s.TableSound := by
  refine ⟨fun i w h => ?_, hn, fun i => (hl i).trans ?_, hd, hs⟩
  · rcases hw i with h1 | h1 | h1 | h1 <;> rw [h1] at h <;> cases h
    · exact level_sound
    · exact delta_sound
    · exact lapsed_sound
  · rw [Option.any_eq_true]
    simp only [Option.isSome_iff_ne_none]

theorem bench_sound : bench.TableSound :=
  tableSound_of (by decide) (by decide) (by decide) (by decide) (by decide)
theorem expired_sound : expired.TableSound :=
  tableSound_of (by decide) (by decide) (by decide) (by decide) (by decide)

theorem witness_StepTakesFrontOfQueue :
    { bench with pending := [Instr.start, .stop] }.pending = .start :: [.stop] ∧ bench.pending = [] := by decide

theorem witness_ResultLengthIsFixed :
    Instr.noticeTake.wellFormed = true ∧ (listening bench).port.awaits Instr.noticeTake.requestBytes = true := by decide

theorem witness_RefusedRequestsChangeNothing :
    (listening State.reset).port.awaits Instr.start.requestBytes = true ∧
    after (·.port.miso) (exec .start (listening State.reset)) = some (.result (0x07#8 :: [0#8])) ∧
    0x07#8 ≠ outcomeByte .ok ∧ 0x07#8 ≠ outcomeByte .accepted ∧ 0x07#8 ≠ outcomeByte .empty := by decide

theorem witness_FramePhasesMove :
    (Instr.start.requestBytes ≠ [] ∧ State.reset.port.phase ≠ .receiving) ∧
    (State.reset.port.phase = .idle ∧ State.reset.held = false) ∧
    ({ State.reset with rstnLow := true }.port.phase = .idle ∧ { State.reset with rstnLow := true }.held = true) ∧
    (listening bench).port.phase ≠ .idle ∧
    ((listening bench).port.phase = .receiving ∧ (listening bench).port.received ++ [0x14#8] = 0x14#8 :: [] ∧
      [0x14#8].length < requestLength 0x14#8 ∧ [0x14#8, 0#8].length < requestLength 0x14#8 ∧
      ¬ [0x14#8, 0#8, 0#8].length < requestLength 0x14#8) ∧
    (answering bench none).port.received = [0x42#8] ∧ ∃ s : State, s.port.phase = .answering ∧ s.port.received ≠ [0x42#8] :=
  ⟨by decide, by decide, by decide, by decide, by decide, rfl, resultOf (exec .stop (listening bench)) bench, by decide, by decide⟩

theorem witness_UnknownCodeAnswersUnknown :
    requestRow 0x10#8 = none ∧ (listening bench).port.phase = .receiving ∧ (listening bench).port.received = [] := by decide

theorem witness_BytewiseRequestEqualsCommand :
    (Instr.amend 5#16).wellFormed = true ∧ (Instr.amend 5#16).requestBytes ≠ [] ∧
    (listening bench).port.phase = .receiving ∧ (listening bench).port.received = [] ∧
    (listening bench).port.awaits [0x22#8, 0#8, 5#8] = true ∧ (answering bench none).port.awaits [0x22#8, 0#8, 5#8] = false := by decide

theorem witness_CommandPortRecognizesRequests :
    (Instr.amend 5#16).wellFormed = true ∧ (Instr.amend 5#16).requestBytes ≠ [] ∧
    requestOf [0x22#8, 0#8, 5#8] = some (.amend 5#16) ∧ requestOf [0xFF#8] = some (.unknownCode 0xFF#8) ∧
    requestOf [0x22#8, 0#8] = none ∧ requestOf [0xFF#8, 0#8] = none ∧
    (let s := { bench with port := { bench.port with phase := .receiving, received := [0x22#8, 0#8] } }
     s.port.phase = .receiving ∧ s.port.received ++ [5#8] = (Instr.amend 5#16).requestBytes) := by decide

theorem witness_FieldsAreCarriedInTheirForms :
    (1023#16 : Word).toNat ≤ 1023 ∧ (0#16 : Word).toNat ≤ 1023 ∧ 255 < 256 ∧ channelFlags false true = 2#8 ∧
    sweeping.summaryByte = 0b01011110#8 := by decide

theorem witness_HandleRequestsCheckHandle :
    (∀ c ∈ [Instr.load 1024#16, .amend 1024#16, .retire 1024#16, .renew 1024#16, .suspend 1024#16, .resume 1024#16,
      .watchStatus 1024#16], (listening bench).port.awaits c.requestBytes = true) ∧ 1023 < (1024#16 : Word).toNat ∧
    (69#16 = makeHandle 1#4 5 ∧ (listening bench).generationAt 5 ≠ 1#4) ∧
    (1023#16 = makeHandle 15#4 63 ∧ (listening bench).watchAt 63 = none) := by decide

theorem witness_SlotsChangeByTheirRules :
    (∀ c, Instr.noticeTakeRemoval ≠ .deviceReset c) ∧
    (let s := answering expired (some { slot := 5, generation := 0#4 })
     (s.watchAt 5).isSome = true ∧ after (·.watchAt 5) (exec .noticeTakeRemoval s) = some none) ∧
    (let s := listening { bench with compose := { ComposeBuffer.defaults with channel := 1 } }
     s.watchAt 0 = none ∧ after (fun t => (t.watchAt 0).isSome) (exec .create s) = some true ∧
       after (fun t => (t.watchAt 0).isSome) (exec (.requestByteArrival 0x21#8) s) = some true ∧
       IsRequest .create (.requestByteArrival 0x21#8) s) ∧
    after (·.generationAt 5) (exec (.deviceReset .supplyFall) bench) = some 0#4 :=
  ⟨fun _ h => Instr.noConfusion h, by decide, ⟨by decide, by decide, by decide, .inr ⟨_, rfl, rfl, rfl⟩⟩, by decide⟩

theorem witness_StepKeepsTableSound : ∃ t, step bench = .next t ∧ bench.TableSound := ⟨bench, rfl, bench_sound⟩

theorem witness_StepKeepsChannelsSound : ∃ s t, s.ChannelsSound ∧ step s = .next t ∧ s.pending ≠ [] ∧ s.plan.accepted = true := by
  refine ⟨{ sweeping with pending := [.stop] }, _, ⟨fun i w h => ?_, by decide, by decide⟩, rfl, by decide, rfl⟩
  have hw : ∀ i, sweeping.watchAt i = none ∨ sweeping.watchAt i = some level ∨ sweeping.watchAt i = some delta := by decide
  change sweeping.watchAt i = some w at h
  rcases hw i with h1 | h1 | h1 <;> rw [h1] at h <;> cases h <;>
    exact ⟨by decide, by unfold Settings.Fits; decide⟩

theorem witness_StepKeepsEngineSound : ∃ s t, s.EngineSound ∧ step s = .next t ∧ s.engine = .converting := by
  refine ⟨{ sweeping with pending := [.conversionCompletion 1#12] }, _, ?_, rfl, rfl⟩
  constructor
  case unmeasured | counting | windows => intro e; cases e <;> decide
  all_goals decide

theorem witness_StepKeepsPortSound :
    ∃ s t, s.PortSound ∧ step s = .next t ∧ s.port.claim = some { slot := 5, generation := 0#4 } := by
  refine ⟨{ answering bench (some { slot := 5, generation := 0#4 }) with pending := [.noticeTakeRemoval] }, _, ?_, rfl, rfl⟩
  refine ⟨by decide, fun h => ?_, fun _ => ⟨[], rfl⟩, by decide, fun c h => ?_⟩
  · cases h
  · cases h
    decide

theorem witness_StepKeepsHeldSound : ∃ s t, s.HeldSound ∧ s.held = true ∧ step s = .next t :=
  ⟨{ State.reset with rstnLow := true, pending := [.rstnRise] }, _, fun _ => ⟨rfl, .inl rfl⟩, rfl, rfl⟩

/-- A watch of each level kind on the band 1200 to 2800 with hysteresis 100 (slot 2 of section 12.6). -/
def banded (kind : WatchKind) : Watch :=
  { level with settings := { level.settings with
      kind := kind, levelA := 1200#16, levelB := if kind.isBand then some 2800#16 else none, hysteresis := 100#10 } }

theorem witness_EntryAndExitTestsOfEachKind :
    (∀ k : WatchKind, k ∈ [.above, .below, .outside, .inside] → (banded k).settings.kind = k) ∧
    (banded .outside).settings.levelB = some 2800#16 ∧ (banded .inside).settings.levelB = some 2800#16 ∧
    (delta.settings.kind = .delta ∧ delta.reference = some 1904#16) ∧
    (banded .outside).settings.Fits ∧ (banded .outside).exitTest 1300#16 = true ∧ (banded .outside).exitTest 1299#16 = false ∧
    (banded .outside).exitTest 2700#16 = true ∧ (banded .outside).exitTest 2701#16 = false ∧
    (banded .inside).entryTest 2800#16 = true ∧ (banded .inside).entryTest 2801#16 = false ∧
    delta.entryTest 1944#16 = true ∧ delta.entryTest 1943#16 = false ∧ delta.entryTest 1864#16 = true := by
  unfold Settings.Fits
  decide

theorem witness_GoodSampleMoves :
    let w := { level with settings := { level.settings with dwell := 2 } }
    1 ≤ w.settings.dwell ∧ (w.state = .quiet ∧ 0 + 1 < w.settings.dwell ∧ w.entryTest 3000#16 = true ∧ w.entryTest 2999#16 = false) ∧
    (let q := { w with state := .qualifying, dwellCount := 1 }
     q.entryTest 3000#16 = true ∧ q.dwellCount + 1 = q.settings.dwell ∧ q.settings.kind ≠ .delta) ∧
    (delta.settings.kind = .delta ∧ 0 + 1 = delta.settings.dwell ∧ delta.entryTest 1944#16 = true) ∧
    { delta with state := .arming }.state = .arming ∧
    (let r := { w with state := .tripped }
     r.exitTest 2999#16 = true ∧ r.exitTest 3000#16 = false) := by decide

theorem witness_FaultedSampleMoves : level.Sound ∧ level.state ≠ .qualifying := ⟨level_sound, by decide⟩

theorem witness_DwellOfQualifyingSamplesTrips :
    let w := { level with settings := { level.settings with dwell := 3 } }
    w.settings.kind ≠ .delta ∧ w.state = .quiet ∧ (∀ x ∈ (3002#16 :: [3000#16, 3001#16] : List Word), w.entryTest x = true) ∧
      [3000#16, 3001#16].length + 1 = w.settings.dwell ∧ [3000#16, 3001#16] ≠ [] :=
  ⟨by decide, by decide, List.all_eq_true.mp (by decide), by decide, by decide⟩

theorem witness_ArrivalsPassUnevaluatedWatches :
    (∀ x ∈ [WatchState.arming, .quiet, .qualifying, .tripped],
      let w := { level with state := x }
      w.settings.channel = 0 ∧ w.state = x ∧ evaluate 0 3050#16 true w ≠ evaluate 0 3050#16 false w) ∧
    (level.settings.channel ≠ 1 ∧ lapsed.state = .expired) ∧
    ∃ t, exec (.conversionCompletion 3050#12) { sweeping with slots := (running.fillSlot 4 { level with state := .suspended }).slots } = .next t ∧
      (running.fillSlot 4 { level with state := .suspended }).watchAt 4 = some { level with state := .suspended } :=
  ⟨by decide, by decide, _, rfl, by decide⟩

theorem witness_PendingListOrder :
    bench.TableSound ∧ (4 : SlotId) ∉ bench.joined ∧ bench.priorityAt 4 = some 4 := ⟨bench_sound, by decide, by decide⟩

theorem witness_NotifyLineFollowsHead : bench.TableSound ∧ bench.notifyAsserted = true := ⟨bench_sound, by decide⟩

theorem witness_ReplacedNoticeIsCoalesced :
    bench.TableSound ∧ bench.watchAt 5 = some delta ∧ delta.notice = some { kind := .step, value := 1904#16, coalesced := false } ∧
    after (fun t => t.watchAt 5) (exec (.leaseExpiry 5) bench) = some (some lapsed) ∧
    lapsed.notice = some { kind := .expiry, value := 1904#16, coalesced := true } := ⟨bench_sound, by decide⟩

theorem listening_sound {s : State} (h : s.TableSound) : (listening s).TableSound := ⟨h.1, h.2, h.3, h.4, h.5⟩

theorem witness_NoticeRequestsReportHead :
    (listening bench).TableSound ∧
    (∀ c ∈ [Instr.noticePeek, .noticeTake], (listening bench).port.awaits c.requestBytes = true) ∧
    (listening bench).pendingList = 5 :: [] ∧ (listening bench).watchAt 5 = some delta ∧ delta.notice.isSome = true ∧
    (listening running).pendingList = [] := ⟨listening_sound bench_sound, by decide⟩

theorem witness_NoticeTakeRemovesClaimedNotice :
    (∀ k ∈ [none, some { slot := 5, generation := 1#4 }, some ({ slot := 5, generation := 0#4 } : TakeClaim)],
      (answering bench k).port.phase = .answering ∧ (answering bench k).port.received = [0x42#8] ∧ (answering bench k).port.claim = k) ∧
    (answering bench none).generationAt 5 = 0#4 ∧ (answering bench none).watchAt 5 = some delta ∧ delta.state ≠ .expired ∧
    (answering expired none).watchAt 5 = some lapsed ∧ lapsed.state = .expired := by decide

theorem witness_StandingClaimKeepsNotice :
    let s := answering bench (some { slot := 5, generation := 0#4 })
    s.PortSound ∧ after (·.port.claim) (exec (.conversionCompletion 3050#12) { s with engine := .idle }) = some s.port.claim := by
  refine ⟨⟨by decide, fun h => ?_, fun _ => ⟨[], rfl⟩, by decide, fun c h => ?_⟩, by decide⟩
  · cases h
  · cases h
    decide

theorem witness_NotifySetWritesSetting :
    (listening bench).port.awaits (Instr.notifySet 1#8 7#8).requestBytes = true ∧ 1#8 = flagByte true ∧ (7#8 : Byte).toNat < 8 ∧
    (listening bench).port.awaits (Instr.notifySet 2#8 0#8).requestBytes = true ∧ 1 < (2#8 : Byte).toNat ∧
    (listening bench).port.awaits (Instr.notifySet 0#8 8#8).requestBytes = true ∧ 7 < (8#8 : Byte).toNat := by decide

theorem witness_IntervalExpiryTicks : bench.timeBase.countdown.isSome = true ∧ State.reset.timeBase.countdown = none := by decide

theorem witness_LeaseLapsesOnLastTick :
    bench.timeBase.countdown.isSome = true ∧ bench.watchAt 4 = some level ∧
    (edgeChannel .edg0 ≠ level.settings.channel ∧ edgeChannel .edg1 ≠ level.settings.channel) ∧ level.settings.lease ≠ 0#16 ∧
    level.state ≠ .expired ∧ 0 < level.leaseRemaining.toNat ∧ 0 + 1 = level.leaseRemaining.toNat := by decide

theorem witness_LeaseExpiryExpiresWatch :
    bench.timeBase.countdown.isSome = true ∧ bench.watchAt 5 = some delta ∧ delta.settings.lease ≠ 0#16 ∧
    delta.state ≠ .expired ∧ delta.leaseRemaining.toNat ≤ 1 := by decide

theorem witness_RenewReloadsLease :
    (listening expired).watchAt 5 = some lapsed ∧ lapsed.state = .expired ∧ (listening expired).handleAt 5 = 5#16 ∧
    (listening expired).port.awaits (Instr.renew 5#16).requestBytes = true ∧
    (listening expired).watchAt 4 = some level ∧ level.state ≠ .expired ∧ level.settings.lease ≠ 0#16 ∧
    (let w := { level with settings := { level.settings with lease := 0#16 }, leaseRemaining := 0#16 }
     (listening (running.fillSlot 4 w)).watchAt 4 = some w) := by decide

theorem witness_TimebaseRequestsReportPeriods :
    (listening bench).port.awaits (Instr.timebaseSet 0#16).requestBytes = true ∧
    (listening bench).port.awaits (Instr.timebaseSet 65535#16).requestBytes = true ∧
    (listening bench).port.awaits Instr.timebaseGet.requestBytes = true := by decide

/-- COMPOSE-WRITE of each value reports it, or is refused. -/
def writes (accepted : Bool) (values : List (Byte × Word)) : Bool :=
  values.all fun x =>
    decide (bytesOf (.composeWrite x.1 x.2) bench =
      some (.result (if accepted then 0x00#8 :: x.1 :: wordBytes x.2 else [0x06#8, 0#8, 0#8, 0#8])))

theorem witness_ComposeWriteChecksItsField :
    writes true [(0#8, 2047#16), (1#8, 14#16), (2#8, 4#16), (5#8, 1023#16), (6#8, 1#16)] = true ∧
    writes true [(6#8, 64#16), (7#8, 1#16), (8#8, 7#16), (9#8, 65535#16), (10#8, 1#16)] = true ∧
    writes false [(0#8, 2048#16), (1#8, 15#16), (2#8, 5#16), (5#8, 1024#16), (6#8, 0#16)] = true ∧
    writes false [(6#8, 65#16), (7#8, 0#16), (8#8, 8#16), (10#8, 2#16), (11#8, 0#16)] = true ∧
    (listening bench).port.awaits (Instr.composeWrite 3#8 65535#16).requestBytes = true := by
  refine ⟨?_, ?_, ?_, ?_, ?_⟩ <;> decide

theorem witness_ComposeClearAndReadAnswer :
    (listening bench).port.awaits Instr.composeClear.requestBytes = true ∧
    (∀ f ∈ [0#8, 10#8, 11#8], (listening bench).port.awaits (Instr.composeRead f).requestBytes = true) ∧
    10 < (11#8 : Byte).toNat := by decide

theorem witness_LoadCopiesSettings :
    (∀ w ∈ [level, banded .inside], w.settings.levelB.isSome = w.settings.kind.isBand ∧
      (listening (running.fillSlot 4 w)).watchAt 4 = some w) ∧
    (listening bench).port.awaits (Instr.load 4#16).requestBytes = true := by decide

/-- A state whose compose buffer holds a band on channel 0 from 100 to `b`, with hysteresis `h`. -/
def composed (kind : WatchKind) (a b : Word) (h : BitVec 10) : State :=
  listening { bench with compose := { ComposeBuffer.defaults with kind := kind, levelA := a, levelB := b, hysteresis := h } }

theorem witness_ValidationReportsFirstFailure :
    (listening State.reset).failingField = some 1#8 ∧ (composed .above 4096#16 0#16 0#10).failingField = some 3#8 ∧
    (composed .inside 100#16 100#16 0#10).failingField = some 4#8 ∧ (composed .inside 100#16 4096#16 0#10).failingField = some 4#8 ∧
    (composed .outside 100#16 119#16 10#10).failingField = some 5#8 ∧ (composed .outside 100#16 120#16 10#10).failingField = none ∧
    (composed .inside 100#16 101#16 10#10).failingField = none ∧ (composed .above 4095#16 0#16 0#10).failingField = none ∧
    (composed .outside 100#16 119#16 10#10).port.awaits Instr.create.requestBytes = true ∧
    (composed .outside 100#16 119#16 10#10).port.awaits (Instr.amend 4#16).requestBytes = true ∧
    (composed .outside 100#16 119#16 10#10).watchAt 4 = some level ∧ level.state ≠ .expired := by decide

/-- A table with no FREE slot. -/
def full : State := listening { running with slots := Vector.replicate 64 { generation := 0#4, watch := some level } }

theorem witness_CreateFillsLowestFreeSlot :
    (listening bench).failingField = none ∧ (listening bench).port.awaits Instr.create.requestBytes = true ∧
    (listening bench).watchAt 0 = none ∧ (∀ j : SlotId, j < 0 → ((listening bench).watchAt j).isSome = true) ∧
    full.failingField = none ∧ (∀ i, (full.watchAt i).isSome = true) := by decide

theorem witness_AmendRearmsOrKeeps :
    (listening bench).watchAt 4 = some level ∧ (listening bench).port.awaits (Instr.amend 4#16).requestBytes = true ∧
    (listening bench).failingField = none ∧
    ((listening bench).compose.toSettings.channel = level.settings.channel ∧
      (listening bench).compose.toSettings.kind = level.settings.kind) ∧
    ((listening bench).watchAt 5 = some delta ∧ (listening bench).compose.toSettings.kind ≠ delta.settings.kind ∧
      delta.state ≠ .expired) ∧
    (listening expired).watchAt 5 = some lapsed ∧ lapsed.state = .expired := by decide

theorem witness_SuspendAndResumeMoves :
    let s := listening { (running.fillSlot 4 { level with state := .suspended }).fillSlot 5 lapsed with joined := [5] }
    s.watchAt 4 = some { level with state := .suspended } ∧ s.watchAt 5 = some lapsed ∧
    s.port.awaits (Instr.suspend 4#16).requestBytes = true ∧ s.port.awaits (Instr.resume 5#16).requestBytes = true ∧
    (listening bench).watchAt 4 = some level ∧ level.state ≠ .suspended := by decide

theorem witness_WatchStatusReportsWatch :
    (listening bench).watchAt 5 = some delta ∧ (listening bench).port.awaits (Instr.watchStatus 5#16).requestBytes = true := by decide

theorem witness_FreeingRequestsFreeSlots :
    (listening bench).watchAt 5 = some delta ∧ (listening bench).TableSound ∧
    (∀ c ∈ [Instr.retire 5#16, .retireTagged 261#16 2047#16, .retireTagged 0#16 0#16, .resetTable],
      (listening bench).port.awaits c.requestBytes = true) := ⟨by decide, listening_sound bench_sound, by decide⟩

theorem witness_TagMatchComparesMaskedBits :
    level.tagMatch 261#11 2047#11 = true ∧ level.tagMatch 260#11 2047#11 = false ∧ level.tagMatch 260#11 2046#11 = true ∧
    bench.selects (fun _ _ => true) 0 = false ∧ bench.selects (fun _ _ => true) 4 = true := by decide

theorem witness_TaggedRequestsActOnMatches :
    (∀ c ∈ [Instr.renewTagged 2048#16 0#16, .suspendTagged 0#16 2048#16, .resumeTagged 2048#16 0#16, .retireTagged 0#16 2048#16,
      .countTagged 2048#16 0#16, .renewTagged 2047#16 2047#16, .suspendTagged 0#16 0#16, .resumeTagged 0#16 0#16,
      .countTagged 0#16 0#16], (listening bench).port.awaits c.requestBytes = true) ∧ 2047 < (2048#16 : Word).toNat := by decide

theorem witness_WalkReportsNextMatch :
    (listening bench).port.awaits (Instr.findFirst 261#16 2047#16).requestBytes = true ∧
    ((listening bench).watchAt 4 = some level ∧ level.tagMatch 261#11 2047#11 = true ∧
      ∀ j : SlotId, j < 4 → (listening bench).watchAt j = none) ∧
    (listening bench).port.cursor = none ∧
    (∀ pos ∈ [WalkPosition.beforeFirst, .reported 4, .reported 63, .ended],
      let s := listening { bench with port := { bench.port with cursor := some { tag := 261#11, mask := 2047#11, position := pos } } }
      s.port.awaits Instr.findNext.requestBytes = true) ∧
    (listening bench).port.awaits (Instr.findFirst 2048#16 0#16).requestBytes = true := by decide

theorem witness_ChannelSetChecksAndWrites :
    (let s := listening { bench with mode := .config }
     (∀ c ∈ [Instr.channelSet 15#8 0#8 0#8 0#8 0#8 0#8, .channelSet 0#8 2#8 0#8 0#8 0#8 0#8, .channelSet 12#8 0#8 3#8 0#8 0#8 1#8,
        .channelSet 13#8 0#8 0#8 0#8 0#8 0#8, .channelSet 0#8 0#8 0#8 0#8 0#8 0#8, .channelSet 12#8 1#8 0#8 1#8 0#8 255#8],
        s.port.awaits c.requestBytes = true) ∧
     s.mode = .config ∧ s.Named 0 ∧ ¬ s.Contained 2) ∧
    (listening bench).mode ≠ .config ∧ channelKind 0 ≠ .edge ∧ edgeChannel .edg0 = (12 : ChannelId) ∧
    0#8 = edgeModeByte .width ∧ 1#8 = polarityByte .falling ∧ 0#8 = measureRateByte .us1 ∧ 255#8 ≠ 0#8 := by
  refine ⟨⟨by decide, rfl, ⟨4, level, by decide, rfl⟩, fun h => ?_⟩, by decide⟩
  exact absurd h.1 (by decide)

theorem witness_ChannelGetAndReadReport :
    (∀ ch ∈ [0#8, 12#8, 14#8, 15#8], (listening bench).port.awaits (Instr.channelGet ch).requestBytes = true ∧
      (listening bench).port.awaits (Instr.channelRead ch).requestBytes = true) ∧
    14 < (15#8 : Byte).toNat ∧ (14#8 : Byte).toNat = (14 : ChannelId).val ∧ channelKind 14 ≠ .edge ∧
    edgeChannel .edg1 = (13 : ChannelId) := by decide

theorem witness_ConversionCycleOfEachMode :
    (∀ m ∈ [PlanMode.one, .pass, .loop], { sweeping.plan with mode := m }.mode = m) ∧
    { sweeping.plan with mode := .priorityLoop, members := 7#15, priorities := 0x4020#15 }.cycle = [5, 14, 0, 5, 14, 1, 5, 14, 2] := by
  decide

theorem witness_PlanRequestsWriteAndReport :
    let s := listening { running with mode := .config }
    let p := { sweeping.plan with mode := .priorityLoop, members := 2#15, priorities := 1#15 }
    (∀ c ∈ [Instr.planSet 4#8 0#8 1#16 0#16 0#8 0#8, .planSet 0#8 15#8 0#16 0#16 0#8 0#8, .planSet 3#8 0#8 2#16 1#16 0#8 0#8,
        .planSet 0#8 0#8 0#16 32768#16 0#8 0#8, .planGet], s.port.awaits c.requestBytes = true) ∧
    3#8 = planModeByte p.mode ∧ (0#8 : Byte).toNat = p.single.val ∧ 2#16 = p.members.setWidth 16 ∧ 1#16 = p.priorities.setWidth 16 ∧
    0#8 = triggerByte p.trigger ∧ 0#8 = resolutionByte p.resolution ∧ p.accepted = true ∧ s.admits p = true ∧
    (∀ q ∈ [{ p with members := 4#15 }, { p with members := 3#15 }, { p with members := 0#15 }, { p with priorities := 0#15 },
        { p with priorities := 4096#15 }, { p with mode := .pass, members := 4099#15 }, { p with mode := .one, single := 12 },
        { p with mode := .one, single := 2 }], s.admits q = false) ∧
    (∀ q ∈ [{ p with mode := .pass, members := 3#15 }, { p with mode := .loop, members := 1#15 }, { p with mode := .one, single := 1 }],
      s.admits q = true) ∧
    (listening bench).mode ≠ .config := by
  decide

theorem witness_StartAndStopMoveEngine :
    (∀ s ∈ [State.reset, sweeping, bench], (listening s).port.awaits Instr.start.requestBytes = true ∧
      (listening s).port.awaits Instr.stop.requestBytes = true) ∧
    State.reset.mode ≠ .run ∧ (sweeping.mode = .run ∧ sweeping.engine ≠ .idle ∧ sweeping.requested = none) ∧
    (bench.mode = .run ∧ bench.engine = .idle ∧ bench.plan.accepted = false) ∧
    (let s := { sweeping with engine := .idle }
     s.engine = .idle ∧ s.plan.accepted = true ∧ s.reference ≠ .off ∧ { s with reference := .off }.reference = .off) ∧
    { sweeping with requested := some .hold }.requested ≠ none := by decide

theorem witness_ReferenceRequestsSwitch :
    (listening bench).port.awaits Instr.refOn.requestBytes = true ∧ (listening bench).reference = .off ∧
    (listening sweeping).port.awaits Instr.refOff.requestBytes = true ∧ (listening sweeping).reference ≠ .off ∧
    (listening sweeping).engine ≠ .idle ∧ (listening bench).engine = .idle := by decide

theorem witness_SettleAndTriggerStartRuns :
    (let s := { sweeping with reference := .settling, engine := .waitRef }
     s.reference = .settling ∧ s.engine = .waitRef ∧ s.held = false ∧ s.engine ≠ .armed) ∧
    (let s := { sweeping with engine := .armed }
     s.engine = .armed ∧ s.reference = .ready ∧ { s with reference := .settling }.reference = .settling) ∧
    sweeping.reference ≠ .settling ∧ { State.reset with supplyLow := true }.held = true := by decide

theorem witness_CompletionHandsArrival :
    sweeping.engine = .converting ∧ sweeping.plan.cycle[sweeping.position]? = some 0 ∧ sweeping.plan.resolution ≠ .fast ∧
    (let s := { sweeping with plan := { sweeping.plan with resolution := .fast }, position := 1 }
     s.plan.cycle[s.position]? = some 1 ∧ (4092#16 : Word).toNat = 4 * ((1023#12 : BitVec 12).toNat % 1024) ∧
       (0#16 : Word).toNat = 4 * ((1024#12 : BitVec 12).toNat % 1024) ∧ s.position + 1 = s.plan.cycle.length) ∧
    (supplied.engine = .converting ∧ supplied.plan.cycle[supplied.position]? = some 14) ∧
    sweeping.position + 1 < sweeping.plan.cycle.length ∧ sweeping.requested = none ∧
    { sweeping with requested := some .hold }.requested ≠ none ∧ bench.engine ≠ .converting ∧
    { (banded .below) with settings := { (banded .below).settings with levelA := 1349#16 } }.entryTest 1350#16 = false ∧
    { level with settings := { level.settings with levelA := 2751#16 } }.entryTest 2750#16 = false := by decide

theorem witness_EdgesWithoutSample :
    ((running.edges.get .edg0).state = .waiting ∧ (running.edgeSettings.get .edg0).mode ≠ .count) ∧
    (let s := { measuring .count with edges := { running.edges with edg0 := { (measuring .count).edges.edg0 with count := 65535#16 } } }
     (s.edges.get .edg0).state = .measuring ∧ (s.edgeSettings.get .edg0).mode = .count) ∧
    ((measuring .width).edges.get .edg0).state = .measuring ∧ (running.edges.get .edg1).state = .idle := by decide

theorem witness_EdgesHandSamples :
    (∀ m ∈ [EdgeMode.width, .period], ((measuring m).edges.get .edg0).state = .measuring ∧
      ((measuring m).edgeSettings.get .edg0).mode = m ∧ ((measuring m).edgeSettings.get .edg0).rate = .us8) ∧
    (65535#16 : Word).toNat = min (524288 / 8) 65535 ∧ 524288 ≤ 65536 * 8 ∧ (65534#16 : Word).toNat = min (524279 / 8) 65535 ∧
    65536 * 8 < 524289 ∧
    ({ EdgeRecord.stopped with windowDue := some 42#16 }.windowDue = some 42#16) ∧ (running.edges.get .edg0).windowDue = none := by decide

theorem witness_ModeRequestDecides :
    (∀ b ∈ [0#8, 2#8, 3#8], (listening sweeping).port.awaits (Instr.modeRequest b).requestBytes = true) ∧ 2 < (3#8 : Byte).toNat ∧
    { sweeping with requested := some .hold }.requested ≠ none ∧
    (2#8 = modeByte .hold ∧ sweeping.requested = none ∧ Mode.hold ≠ sweeping.mode ∧ sweeping.mode = .run ∧ sweeping.engine = .converting) ∧
    bench.engine ≠ .converting ∧ State.reset.mode ≠ .run ∧ 1#8 = modeByte .run ∧ Mode.run = bench.mode := by decide

theorem witness_PendingModeChangeIsCarriedOut :
    (let s := { sweeping with engine := .idle, requested := some .hold }
     s.requested = some .hold ∧ s.engine ≠ .converting) ∧ sweeping.requested = none ∧ sweeping.engine = .converting := by decide

theorem witness_SummaryReportsAndClearsOverrun :
    (listening sweeping).port.awaits Instr.summary.requestBytes = true ∧ (listening running).port.awaits Instr.summary.requestBytes = true := by
  decide

theorem witness_DeviceResetSetsResetValues : State.reset.port.phase = .idle ∧ (listening bench).port.phase ≠ .idle := by decide

end Sys2Proof.Tests
end

section
/-! What a command can do to the slots of the watch table: keep them, free them, or fill one (R16, R18). -/

namespace Sys2Proof.Machine

/-! ## Slots that keep their generation and stay FREE or live -/

/-- Every slot keeps its generation, and stays FREE or stays live. -/
structure SlotsKept (s t : State) : Prop where
  generations : ∀ i, t.generationAt i = s.generationAt i
  live : ∀ i, (t.watchAt i).isSome = (s.watchAt i).isSome

section SlotsKept

variable {s t u : State}

theorem State.watchAt_congr (h : t.slots = s.slots) (i : SlotId) : t.watchAt i = s.watchAt i := by
  simp only [State.watchAt, h]

theorem State.generationAt_congr (h : t.slots = s.slots) (i : SlotId) : t.generationAt i = s.generationAt i := by
  simp only [State.generationAt, h]

theorem SlotsKept.of_slots (h : t.slots = s.slots) : SlotsKept s t where
  generations := State.generationAt_congr h
  live i := by rw [State.watchAt_congr h i]

theorem SlotsKept.trans (h : SlotsKept s t) (k : SlotsKept t u) : SlotsKept s u where
  generations i := (k.generations i).trans (h.generations i)
  live i := (k.live i).trans (h.live i)

theorem SlotsKept.of_next (h : (Host.Outcome.next u : StepOutcome) = .next t) (k : SlotsKept s u) : SlotsKept s t := by
  cases h
  exact k

theorem SlotsKept.mapWatches (s : State) (f : SlotId → Watch → Watch) : SlotsKept s (s.mapWatches f) where
  generations := State.generationAt_mapWatches s f
  live i := by simp

theorem SlotsKept.setWatch (s : State) (i : SlotId) (w : Watch) : SlotsKept s (s.setWatch i w) := .mapWatches s _

theorem SlotsKept.judge (s : State) (f : SlotId → Watch → Judgement) : SlotsKept s (s.judge f) where
  generations := State.generationAt_judge s f
  live i := by simp

theorem SlotsKept.arrival (s : State) (c : ChannelId) (v : Word) (faulted : Bool) : SlotsKept s (s.arrival c v faulted) :=
  (SlotsKept.of_slots (State.setEntry_slots s c _)).trans (.judge _ _)

theorem SlotsKept.setEdge_arrival (s : State) (e : EdgeInput) (r : EdgeRecord) (c : ChannelId) (v : Word) (faulted : Bool) :
    SlotsKept s ((s.setEdge e r).arrival c v faulted) :=
  (SlotsKept.of_slots (State.setEdge_slots s e r)).trans (.arrival _ c v faulted)

theorem SlotsKept.deliverWindow (s : State) (e : EdgeInput) : SlotsKept s (s.deliverWindow e) := by
  unfold State.deliverWindow
  split
  · exact .of_slots rfl
  · exact .setEdge_arrival s e _ _ _ _

theorem SlotsKept.deliverWindows (s : State) : SlotsKept s s.deliverWindows :=
  (SlotsKept.deliverWindow s .edg0).trans (.deliverWindow _ .edg1)

theorem SlotsKept.enterMode (s : State) (m : Mode) : SlotsKept s (s.enterMode m) :=
  (SlotsKept.deliverWindows s).trans (.of_slots (State.enterMode_slots s m))

theorem SlotsKept.rangeEnd (s : State) (m : EdgeMode) (e : EdgeInput) : SlotsKept s (s.rangeEnd m e) := by
  unfold State.rangeEnd
  dsimp only
  split
  · exact .setEdge_arrival s e _ _ _ _
  · exact .of_slots rfl

theorem SlotsKept.startMeasurement (s : State) (e : EdgeInput) : SlotsKept s (s.startMeasurement e) := .of_slots rfl

end SlotsKept

/-! ## Requests that leave every slot alone -/

section SameSlots

variable (s : State)

@[simp] theorem composeWrite_slots (field : Byte) (value : Word) : (composeWrite field value s).1.slots = s.slots := by
  unfold composeWrite
  split <;> rfl

@[simp] theorem composeRead_slots (field : Byte) : (composeRead field s).1.slots = s.slots := by
  unfold composeRead
  split <;> rfl

@[simp] theorem load_slots (handle : Word) : (load handle s).1.slots = s.slots := by
  unfold load
  split <;> rfl

@[simp] theorem watchStatus_slots (handle : Word) : (watchStatus handle s).1.slots = s.slots := by
  unfold watchStatus
  split <;> rfl

@[simp] theorem walkStep_slots (q : Search) : (walkStep q s).1.slots = s.slots := by
  unfold walkStep
  split <;> rfl

@[simp] theorem findFirst_slots (tag mask : Word) : (findFirst tag mask s).1.slots = s.slots := by
  unfold findFirst
  split
  · exact walkStep_slots s _
  · rfl

@[simp] theorem findNext_slots : (findNext s).1.slots = s.slots := by
  unfold findNext
  split
  · rfl
  · exact walkStep_slots s _

@[simp] theorem notifySet_slots (enable threshold : Byte) : (notifySet enable threshold s).1.slots = s.slots := by
  unfold notifySet
  split <;> rfl

@[simp] theorem State.configure_slots (c : ChannelId) (enabled : Bool) (edge : Option (EdgeInput × EdgeSettings)) :
    (s.configure c enabled edge).slots = s.slots := by
  unfold State.configure
  split <;> rfl

@[simp] theorem channelSetChecked_slots (c : ChannelId) (enabled : Bool) (edge : Option (EdgeInput × EdgeSettings)) :
    (channelSetChecked c enabled edge s).1.slots = s.slots := by
  unfold channelSetChecked
  split_ifs
  · rfl
  · rfl
  · exact State.configure_slots s c enabled edge

@[simp] theorem channelSet_slots (channel enabled edgeMode polarity rate gate : Byte) :
    (channelSet channel enabled edgeMode polarity rate gate s).1.slots = s.slots := by
  unfold channelSet
  split
  · rfl
  · split
    · exact channelSetChecked_slots s _ _ _
    · rfl

@[simp] theorem channelGet_slots (channel : Byte) : (channelGet channel s).1.slots = s.slots := by
  unfold channelGet
  split <;> rfl

@[simp] theorem channelRead_slots (channel : Byte) : (channelRead channel s).1.slots = s.slots := by
  unfold channelRead
  split <;> rfl

@[simp] theorem planSet_slots (mode single : Byte) (members priorities : Word) (trigger resolution : Byte) :
    (planSet mode single members priorities trigger resolution s).1.slots = s.slots := by
  unfold planSet
  split
  · rfl
  · split_ifs <;> rfl

@[simp] theorem start_slots : (start s).1.slots = s.slots := by
  unfold start
  split_ifs <;> rfl

@[simp] theorem stop_slots : (stop s).1.slots = s.slots := by
  unfold stop
  split_ifs <;> rfl

@[simp] theorem refOff_slots : (refOff s).1.slots = s.slots := by
  unfold refOff
  split_ifs <;> rfl

@[simp] theorem timebaseSet_slots (period : Word) : (timebaseSet period s).1.slots = s.slots := by
  unfold timebaseSet
  split_ifs <;> rfl

end SameSlots

/-! ## Requests that change live watches -/

section ChangedWatches

variable (s : State)

theorem SlotsKept.amend (handle : Word) : SlotsKept s (amend handle s).1 := by
  unfold Machine.amend
  split
  · exact .of_slots rfl
  · split_ifs
    · exact .of_slots rfl
    · split
      · exact .of_slots rfl
      · exact .setWatch s _ _

theorem SlotsKept.renew (handle : Word) : SlotsKept s (renew handle s).1 := by
  unfold Machine.renew
  split
  · exact .of_slots rfl
  · split_ifs
    · exact .of_slots rfl
    · exact .setWatch s _ _
    · exact .of_slots rfl

theorem SlotsKept.suspend (handle : Word) : SlotsKept s (suspend handle s).1 := by
  unfold Machine.suspend
  split
  · exact .of_slots rfl
  · split_ifs
    · exact .of_slots rfl
    · exact .setWatch s _ _
    · exact .of_slots rfl

theorem SlotsKept.resume (handle : Word) : SlotsKept s (resume handle s).1 := by
  unfold Machine.resume
  split
  · exact .of_slots rfl
  · split_ifs
    · exact .of_slots rfl
    · exact .of_slots rfl
    · exact .setWatch s _ _

/-- A tagged request changes nothing when it refuses its tag or mask (R115). -/
theorem tagged_cases (tag mask : Word) (n : Nat) (act : BitVec 11 → BitVec 11 → State → State × Answer) :
    (∃ t m, tagged tag mask n act s = act t m s) ∨ tagged tag mask n act s = (s, zeroAnswer .badArg n) := by
  unfold tagged
  split
  · exact .inl ⟨_, _, rfl⟩
  · exact .inr rfl

theorem SlotsKept.tagged (tag mask : Word) (n : Nat) {act : BitVec 11 → BitVec 11 → State → State × Answer}
    (h : ∀ t m, SlotsKept s (act t m s).1) : SlotsKept s (tagged tag mask n act s).1 := by
  rcases tagged_cases s tag mask n act with ⟨t, m, ht⟩ | ht
  · exact ht ▸ h t m
  · exact ht ▸ .of_slots rfl

theorem SlotsKept.changeMode (target : Mode) : SlotsKept s (changeMode target s).1 := by
  unfold Machine.changeMode
  dsimp only
  split
  · exact .of_slots rfl
  · exact .enterMode s target

theorem SlotsKept.modeRequest (target : Byte) : SlotsKept s (modeRequest target s).1 := by
  unfold Machine.modeRequest
  split
  · exact .of_slots rfl
  · split_ifs
    · exact .of_slots rfl
    · exact .of_slots rfl
    · exact .changeMode s _

end ChangedWatches

/-! ## Events that free no slot -/

section Events

variable {s t : State}

theorem SlotsKept.csnFall (h : exec .csnFall s = .next t) : SlotsKept s t := by
  change execCsnFall s = _ at h
  unfold execCsnFall at h
  split_ifs at h <;> exact .of_next h (.of_slots rfl)

theorem SlotsKept.csnRise (h : exec .csnRise s = .next t) : SlotsKept s t := by
  change execCsnRise s = _ at h
  unfold execCsnRise at h
  split_ifs at h <;> exact .of_next h (.of_slots rfl)

theorem SlotsKept.lastResultByteEnd (h : exec .lastResultByteEnd s = .next t) : SlotsKept s t := by
  change execLastResultByteEnd s = _ at h
  unfold execLastResultByteEnd at h
  split_ifs at h <;> exact .of_next h (.of_slots rfl)

theorem SlotsKept.conversionCompletion {result : BitVec 12} (h : exec (.conversionCompletion result) s = .next t) :
    SlotsKept s t := by
  change execConversionCompletion result s = _ at h
  unfold execConversionCompletion at h
  dsimp only at h
  split_ifs at h
  · split at h
    · split_ifs at h
      · exact .of_next h ((SlotsKept.arrival s _ _ _).trans (.of_slots rfl))
      · exact .of_next h (.of_slots rfl)
    · exact .of_next h (.of_slots rfl)
  · exact .of_next h (.of_slots rfl)

theorem SlotsKept.settleEvent (h : exec .settleEvent s = .next t) : SlotsKept s t := by
  change execSettleEvent s = _ at h
  unfold execSettleEvent at h
  split_ifs at h <;> exact .of_next h (.of_slots rfl)

theorem SlotsKept.trigFallingEdge (h : exec .trigFallingEdge s = .next t) : SlotsKept s t := by
  change execTrigFallingEdge s = _ at h
  unfold execTrigFallingEdge at h
  split_ifs at h <;> exact .of_next h (.of_slots rfl)

theorem SlotsKept.activeEdge (s : State) (e : EdgeInput) (elapsed : Nat) : SlotsKept s (s.activeEdge e elapsed) := by
  unfold State.activeEdge
  dsimp only
  split
  · exact .of_slots rfl
  · exact .startMeasurement s e
  · exact .of_slots rfl
  · exact .startMeasurement s e
  · split_ifs
    · exact (SlotsKept.rangeEnd s _ e).trans (.startMeasurement _ e)
    · exact (SlotsKept.startMeasurement s e).trans (.arrival _ _ _ _)
  · exact .of_slots rfl
  · exact .of_slots rfl

theorem SlotsKept.oppositeEdge (s : State) (e : EdgeInput) (elapsed : Nat) : SlotsKept s (s.oppositeEdge e elapsed) := by
  unfold State.oppositeEdge
  dsimp only
  split_ifs
  · exact .rangeEnd s _ e
  · exact .setEdge_arrival s e _ _ _ _
  · exact .of_slots rfl

theorem SlotsKept.intervalExpiry (h : exec .intervalExpiry s = .next t) : SlotsKept s t := by
  change execIntervalExpiry s = _ at h
  unfold execIntervalExpiry at h
  dsimp only at h
  split_ifs at h
  · have reloaded : SlotsKept s { s.deliverWindows with timeBase := s.deliverWindows.timeBase.reload } :=
      (SlotsKept.deliverWindows s).trans (.of_slots rfl)
    exact .of_next h ((reloaded.trans (.judge _ _)).trans (.of_slots (State.tickEdges_slots _)))
  · exact .of_next h (.of_slots rfl)

theorem SlotsKept.leaseExpiry {slot : SlotId} (h : exec (.leaseExpiry slot) s = .next t) : SlotsKept s t := by
  change execLeaseExpiry slot s = _ at h
  unfold execLeaseExpiry at h
  split_ifs at h
  · exact .of_next h (.judge s _)
  · exact .of_next h (.of_slots rfl)

theorem SlotsKept.modeChangeCarriedOut (h : exec .modeChangeCarriedOut s = .next t) : SlotsKept s t := by
  change execModeChangeCarriedOut s = _ at h
  unfold execModeChangeCarriedOut at h
  split at h
  · exact .of_next h (.of_slots rfl)
  · split_ifs at h
    · exact .of_next h (.of_slots rfl)
    · exact .of_next h (.enterMode s _)

end Events

/-! ## All that a command can do to the slots -/

/-- What a command other than device reset can do to the slots: keep them, free live slots that `frees` allows, or, when `fills`
allows it, fill the lowest-numbered FREE slot. -/
inductive SlotsMove (frees : SlotId → Prop) (fills : Prop) (s t : State) : Prop
  | kept (h : SlotsKept s t)
  | freed (p : SlotId → Watch → Bool) (h : t.slots = (s.freeWatches p).slots) (hf : ∀ i, s.selects p i = true → frees i)
  | filled (i : SlotId) (w : Watch) (hi : s.lowestFree = some i) (h : t.slots = (s.fillSlot i w).slots) (hf : fills)

section SlotsMove

variable {s t u : State} {frees frees' : SlotId → Prop} {fills fills' : Prop}

theorem SlotsMove.mono (h : SlotsMove frees fills s t) (hf : ∀ i, frees i → frees' i) (hc : fills → fills') :
    SlotsMove frees' fills' s t := by
  cases h with
  | kept h => exact .kept h
  | freed p h hp => exact .freed p h fun i hi => hf i (hp i hi)
  | filled i w hi h hw => exact .filled i w hi h (hc hw)

theorem SlotsMove.of_slots (h : SlotsMove frees fills s t) (hu : u.slots = t.slots) : SlotsMove frees fills s u := by
  cases h with
  | kept h => exact .kept (h.trans (.of_slots hu))
  | freed p h hp => exact .freed p (hu.trans h) hp
  | filled i w hi h hw => exact .filled i w hi (hu.trans h) hw

/-- A move advances the generations of the slots it frees alone (R16). -/
theorem SlotsMove.generationAt (h : SlotsMove frees fills s t) (i : SlotId) :
    t.generationAt i =
      if (s.watchAt i).isSome = true ∧ t.watchAt i = none then s.generationAt i + 1#4 else s.generationAt i := by
  cases h with
  | kept h =>
    have hlive := h.live i
    rw [if_neg (by rintro ⟨hs, ht⟩; simp [hs, ht] at hlive)]
    exact h.generations i
  | freed p h hp =>
    rw [State.generationAt_congr h, State.watchAt_congr h, State.generationAt_freeWatches, State.watchAt_freeWatches]
    cases hw : s.watchAt i with
    | none => simp [State.selects_none s hw]
    | some w => cases hsel : s.selects p i <;> simp
  | filled j w hj h hf =>
    rw [State.generationAt_congr h, State.watchAt_congr h, State.generationAt_fillSlot, State.watchAt_fillSlot]
    by_cases hij : i = j
    · simp [hij]
    · cases hw : s.watchAt i <;> simp [hij]

/-- A slot that becomes FREE is one that the move may free. -/
theorem SlotsMove.frees_of (h : SlotsMove frees fills s t) {i : SlotId} (hs : (s.watchAt i).isSome = true)
    (ht : t.watchAt i = none) : frees i := by
  cases h with
  | kept h => exact absurd (h.live i) (by simp [hs, ht])
  | freed p h hp =>
    rw [State.watchAt_congr h, State.watchAt_freeWatches] at ht
    refine hp i (Bool.of_not_eq_false fun hsel => ?_)
    simp [hsel] at ht
    simp [ht] at hs
  | filled j w hj h hf =>
    rw [State.watchAt_congr h, State.watchAt_fillSlot] at ht
    split_ifs at ht
    simp [ht] at hs

/-- A FREE slot that becomes live is the lowest-numbered one, and the move may fill it (R18). -/
theorem SlotsMove.fills_of (h : SlotsMove frees fills s t) {i : SlotId} (hs : s.watchAt i = none)
    (ht : (t.watchAt i).isSome = true) : fills ∧ ∀ j : SlotId, j < i → (s.watchAt j).isSome = true := by
  cases h with
  | kept h => exact absurd (h.live i) (by simp [hs, ht])
  | freed p h hp =>
    rw [State.watchAt_congr h, State.watchAt_freeWatches, State.selects_none s hs] at ht
    simp [hs] at ht
  | filled j w hj h hf =>
    have hij : i = j := by
      by_contra hne
      rw [State.watchAt_congr h, State.watchAt_fillSlot, if_neg hne, hs] at ht
      cases ht
    exact ⟨hf, hij ▸ (State.lowestFree_some s hj).2⟩

end SlotsMove

/-! ## The commands that move slots -/

/-- The requests that free slots: RETIRE, RETIRE-TAGGED and RESET-TABLE (R106, R111, R121). -/
def FreesSlots (r : Instr) : Prop := (∃ h, r = .retire h) ∨ (∃ tag mask, r = .retireTagged tag mask) ∨ r = .resetTable

section Requests

variable {frees : SlotId → Prop} {fills : Prop} {s t : State}

theorem SlotsMove.create (s : State) (hf : fills) : SlotsMove frees fills s (create s).1 := by
  unfold Machine.create
  split
  · exact .kept (.of_slots rfl)
  · split
    · exact .kept (.of_slots rfl)
    · exact .filled _ _ ‹_› rfl hf

theorem SlotsMove.retire (s : State) (handle : Word) (hf : ∀ i, frees i) : SlotsMove frees fills s (retire handle s).1 := by
  unfold Machine.retire
  split
  · exact .kept (.of_slots rfl)
  · exact .freed _ rfl fun i _ => hf i

theorem SlotsMove.retireTagged (s : State) (tag mask : Word) (n : Nat) (hf : ∀ i, frees i) :
    SlotsMove frees fills s (tagged tag mask n retireTagged s).1 := by
  rcases tagged_cases s tag mask n Machine.retireTagged with ⟨t, m, h⟩ | h
  · exact h ▸ .freed _ rfl fun i _ => hf i
  · exact h ▸ .kept (.of_slots rfl)

theorem SlotsMove.resetTable (s : State) (hf : ∀ i, frees i) : SlotsMove frees fills s (resetTable s).1 :=
  .freed _ rfl fun i _ => hf i

/-- What a request's own action does to the slots. -/
theorem requestAct_slotsMove (c : Instr) (s : State) :
    SlotsMove (fun _ => FreesSlots c) (c = .create) s (requestAct c s).1 := by
  cases c
  case create => exact .create s rfl
  case retire handle => exact .retire s handle fun _ => .inl ⟨handle, rfl⟩
  case retireTagged tag mask => exact .retireTagged s tag mask 1 fun _ => .inr (.inl ⟨tag, mask, rfl⟩)
  case resetTable => exact .resetTable s fun _ => .inr (.inr rfl)
  case amend handle => exact .kept (.amend s handle)
  case renew handle => exact .kept (.renew s handle)
  case suspend handle => exact .kept (.suspend s handle)
  case resume handle => exact .kept (.resume s handle)
  case modeRequest target => exact .kept (.modeRequest s target)
  case renewTagged tag mask => exact .kept (.tagged s tag mask 2 fun _ _ => .mapWatches s _)
  case suspendTagged tag mask => exact .kept (.tagged s tag mask 1 fun _ _ => .mapWatches s _)
  case resumeTagged tag mask => exact .kept (.tagged s tag mask 1 fun _ _ => .mapWatches s _)
  case countTagged tag mask => exact .kept (.tagged s tag mask 3 fun _ _ => .of_slots rfl)
  case composeWrite field value => exact .kept (.of_slots (composeWrite_slots s field value))
  case composeRead field => exact .kept (.of_slots (composeRead_slots s field))
  case load handle => exact .kept (.of_slots (load_slots s handle))
  case watchStatus handle => exact .kept (.of_slots (watchStatus_slots s handle))
  case findFirst tag mask => exact .kept (.of_slots (findFirst_slots s tag mask))
  case findNext => exact .kept (.of_slots (findNext_slots s))
  case notifySet enable threshold => exact .kept (.of_slots (notifySet_slots s enable threshold))
  case channelSet => exact .kept (.of_slots (channelSet_slots s _ _ _ _ _ _))
  case channelGet channel => exact .kept (.of_slots (channelGet_slots s channel))
  case channelRead channel => exact .kept (.of_slots (channelRead_slots s channel))
  case planSet => exact .kept (.of_slots (planSet_slots s _ _ _ _ _ _))
  case start => exact .kept (.of_slots (start_slots s))
  case stop => exact .kept (.of_slots (stop_slots s))
  case refOff => exact .kept (.of_slots (refOff_slots s))
  case timebaseSet period => exact .kept (.of_slots (timebaseSet_slots s period))
  all_goals exact .kept (.of_slots rfl)

/-- What taking a request, or ignoring it, does to the slots (R189 to R191). -/
theorem exec_request_slotsMove {c : Instr} (hw : c.wellFormed = true) (hb : c.requestBytes ≠ []) (h : exec c s = .next t) :
    SlotsMove (fun _ => FreesSlots c) (c = .create) s t := by
  rw [exec_request hw hb] at h
  rcases takeRequest_cases h with ⟨-, rfl⟩ | ⟨-, rfl⟩
  · exact (requestAct_slotsMove c s).of_slots (State.answer_slots _ _ _)
  · exact .kept (.of_slots rfl)

/-- The removal of a notice frees a slot only when its watch is EXPIRED (R63, R64). -/
theorem State.removeNotice_slotsMove (s : State) (i : SlotId) :
    SlotsMove (fun j => ∃ w, s.watchAt j = some w ∧ w.state = .expired) False s (s.removeNotice i) := by
  unfold State.removeNotice
  split
  · exact .kept (.of_slots rfl)
  case _ w hw =>
    split_ifs with he
    · refine .freed _ rfl fun j hj => ⟨w, ?_, by simpa [Watch.isExpired] using he⟩
      obtain ⟨x, hx, hji⟩ := (Option.any_eq_true _ _).mp hj
      rwa [eq_of_beq hji]
    · exact .kept ((SlotsKept.mapWatches s _).trans (.of_slots rfl))

theorem State.removeClaimed_slotsMove (s : State) :
    SlotsMove (fun j => ∃ w, s.watchAt j = some w ∧ w.state = .expired) False s s.removeClaimed := by
  unfold State.removeClaimed
  split
  · exact .kept (.of_slots rfl)
  · split_ifs
    · exact s.removeNotice_slotsMove _
    · exact .kept (.of_slots rfl)

theorem noticeTakeRemoval_slotsMove (h : exec .noticeTakeRemoval s = .next t) :
    SlotsMove (fun j => ∃ w, s.watchAt j = some w ∧ w.state = .expired) False s t := by
  change execNoticeTakeRemoval s = _ at h
  unfold execNoticeTakeRemoval at h
  split_ifs at h <;> cases h
  · exact s.removeClaimed_slotsMove.of_slots rfl
  · exact .kept (.of_slots rfl)

end Requests

/-! ## Every command -/

/-- When a command may free slot `i`: it stands for RETIRE, RETIRE-TAGGED or RESET-TABLE, or it removes an EXPIRY notice (R16). -/
def MayFree (c : Instr) (s : State) (i : SlotId) : Prop :=
  (∃ h, IsRequest (.retire h) c s) ∨ (∃ tag mask, IsRequest (.retireTagged tag mask) c s) ∨ IsRequest .resetTable c s ∨
    (c = .noticeTakeRemoval ∧ ∃ w, s.watchAt i = some w ∧ w.state = .expired)

section Commands

variable {s t : State}

theorem FreesSlots.mayFree {r c : Instr} (h : FreesSlots r) (hr : IsRequest r c s) (i : SlotId) : MayFree c s i := by
  rcases h with ⟨handle, rfl⟩ | ⟨tag, mask, rfl⟩ | rfl
  · exact .inl ⟨handle, hr⟩
  · exact .inr (.inl ⟨tag, mask, hr⟩)
  · exact .inr (.inr (.inl hr))

/-- A command that stands for a request moves slots as that request does. -/
theorem SlotsMove.of_isRequest {r c : Instr} (h : SlotsMove (fun _ => FreesSlots r) (r = .create) s t) (hr : IsRequest r c s) :
    SlotsMove (MayFree c s) (IsRequest .create c s) s t :=
  h.mono (fun i hf => hf.mayFree hr i) fun hc => hc ▸ hr

/-- The arrival of a byte moves slots only as the last byte of a request (R189). -/
theorem requestByteArrival_slotsMove {b : Byte} (h : exec (.requestByteArrival b) s = .next t) :
    SlotsMove (MayFree (.requestByteArrival b) s) (IsRequest .create (.requestByteArrival b) s) s t := by
  rcases requestByteArrival_cases b s with he | ⟨-, -, he⟩ | ⟨r, hb, hw, ha, he⟩
  · exact .kept (.of_next (he.symm.trans h) (.of_slots rfl))
  · exact .kept (.of_next (he.symm.trans h) (.of_slots rfl))
  · have hr : IsRequest r (.requestByteArrival b) s := .inr ⟨b, rfl, Port.awaits_receiving ha, hb.symm⟩
    exact (exec_request_slotsMove hw (by simp [hb]) (he.symm.trans h)).of_isRequest hr

/-- All that a command other than device reset does to the slots (R16, R18). -/
theorem exec_slotsMove {c : Instr} (hc : ∀ cause, c ≠ .deviceReset cause) (h : exec c s = .next t) :
    SlotsMove (MayFree c s) (IsRequest .create c s) s t := by
  cases c
  case deviceReset cause => exact absurd rfl (hc cause)
  case noticeTakeRemoval =>
    exact (noticeTakeRemoval_slotsMove h).mono (fun i hi => .inr (.inr (.inr ⟨rfl, hi⟩))) False.elim
  case requestByteArrival b => exact requestByteArrival_slotsMove h
  case csnFall => exact .kept (.csnFall h)
  case csnRise => exact .kept (.csnRise h)
  case lastResultByteEnd => exact .kept (.lastResultByteEnd h)
  case conversionCompletion => exact .kept (.conversionCompletion h)
  case settleEvent => exact .kept (.settleEvent h)
  case trigFallingEdge => exact .kept (.trigFallingEdge h)
  case activeEdge e elapsed => exact .kept (.of_next h (.activeEdge s e elapsed))
  case oppositeEdge e elapsed => exact .kept (.of_next h (.oppositeEdge s e elapsed))
  case overflow e => exact .kept (.of_next h (.rangeEnd s .width e))
  case stall e => exact .kept (.of_next h (.rangeEnd s .period e))
  case intervalExpiry => exact .kept (.intervalExpiry h)
  case leaseExpiry => exact .kept (.leaseExpiry h)
  case windowEnd e => exact .kept (.of_next h (.deliverWindow s e))
  case modeChangeCarriedOut => exact .kept (.modeChangeCarriedOut h)
  case rstnRise => exact .kept (.of_next h (.of_slots rfl))
  case unknownCode code =>
    by_cases hw : (Instr.unknownCode code).wellFormed = true
    · exact (exec_request_slotsMove hw (List.cons_ne_nil _ _) h).of_isRequest (.inl rfl)
    · rw [show exec (.unknownCode code) s = .next s from if_neg hw] at h
      exact .kept (.of_next h (.of_slots rfl))
  all_goals exact (exec_request_slotsMove rfl (by exact List.cons_ne_nil _ _) h).of_isRequest (.inl rfl)

theorem deviceReset_generationAt {cause : ResetCause} (h : exec (.deviceReset cause) s = .next t) (i : SlotId) :
    t.generationAt i = 0#4 := by
  change execDeviceReset cause s = _ at h
  cases h
  simp [State.generationAt, State.reset, Slot.atReset]

end Commands

/-- Settles O11, by what each command can do to the slots (`exec_slotsMove`). -/
theorem slotsChangeByTheirRules : Obligations.SlotsChangeByTheirRules := by
  unfold Obligations.SlotsChangeByTheirRules
  refine ⟨fun c s t hc h i => ?_, fun _ _ _ h => deviceReset_generationAt h⟩
  have hm := exec_slotsMove hc h
  exact ⟨hm.generationAt i, fun ⟨hs, ht⟩ => hm.frees_of hs ht, fun ⟨hs, ht⟩ => hm.fills_of hs ht⟩

end Sys2Proof.Machine
end

section
/-! The handle check of the seven handle requests (R17) and the report of WATCH-STATUS (R21). -/

namespace Sys2Proof.Machine

section HandleCheck

variable {s : State}

theorem State.lookup_badArg {handle : Word} (h : Config.handleMax < handle.toNat) : s.lookup handle = .error .badArg :=
  if_pos h

/-- A handle of a FREE slot, or of another generation than its slot's, is stale (R17). -/
theorem State.lookup_stale {g : BitVec 4} {i : SlotId} (h : s.watchAt i = none ∨ s.generationAt i ≠ g) :
    s.lookup (makeHandle g i) = .error .stale := by
  have hle := Nat.not_lt.mpr (makeHandle_le g i)
  simp only [State.lookup, if_neg hle, handleSlot_makeHandle, handleGeneration_makeHandle]
  split
  · rfl
  · next hw =>
    have hne : s.generationAt i ≠ g := h.resolve_left (by simp [hw])
    exact if_neg hne

/-- The seven handle requests, each with the number of its data bytes (R17, R196). -/
def handleRequests (h : Word) : List (Instr × Nat) :=
  [(.load h, 1), (.amend h, 4), (.retire h, 1), (.renew h, 2), (.suspend h, 1), (.resume h, 1), (.watchStatus h, 13)]

/-- A handle request whose handle fails the check changes nothing and answers with the check's outcome (R17). -/
theorem handleRequest_error {h : Word} {c : Instr} {n : Nat} {o : OutcomeCode} (hm : (c, n) ∈ handleRequests h)
    (hl : s.lookup h = .error o) : c.wellFormed = true ∧ requestAct c s = (s, zeroAnswer o n) := by
  simp only [handleRequests, List.mem_cons, List.not_mem_nil, or_false, Prod.mk.injEq] at hm
  rcases hm with ⟨rfl, rfl⟩ | ⟨rfl, rfl⟩ | ⟨rfl, rfl⟩ | ⟨rfl, rfl⟩ | ⟨rfl, rfl⟩ | ⟨rfl, rfl⟩ | ⟨rfl, rfl⟩
  · exact ⟨rfl, by simp only [requestAct, load, hl]⟩
  · exact ⟨rfl, by simp only [requestAct, amend, hl]⟩
  · exact ⟨rfl, by simp only [requestAct, retire, hl]⟩
  · exact ⟨rfl, by simp only [requestAct, renew, hl]⟩
  · exact ⟨rfl, by simp only [requestAct, suspend, hl]⟩
  · exact ⟨rfl, by simp only [requestAct, resume, hl]⟩
  · exact ⟨rfl, by simp only [requestAct, watchStatus, hl]⟩

theorem handleRequest_refused {h : Word} {c : Instr} {n : Nat} {o : OutcomeCode} (hm : (c, n) ∈ handleRequests h)
    (ha : s.port.awaits c.requestBytes = true) (hl : s.lookup h = .error o) :
    ∃ t, Takes c s t o (List.replicate n 0#8) ∧ SameButPort s t := by
  obtain ⟨hw, hact⟩ := handleRequest_error hm hl
  exact ⟨_, takes_awaits hw ha hact rfl rfl, rfl⟩

end HandleCheck

/-- Settles O10, by what the handle check answers (`State.lookup_badArg`, `State.lookup_stale`). -/
theorem handleRequestsCheckHandle : Obligations.HandleRequestsCheckHandle := by
  unfold Obligations.HandleRequestsCheckHandle
  intro s h c n hm ha
  refine ⟨fun habove => handleRequest_refused hm ha (State.lookup_badArg habove), ?_⟩
  rintro g i rfl hstale
  exact handleRequest_refused hm ha (State.lookup_stale hstale)

/-- WATCH-STATUS by the handle of a live watch (R21). -/
theorem watchStatus_handleAt {s : State} {i : SlotId} {w : Watch} (h : s.watchAt i = some w) :
    watchStatus (s.handleAt i) s = (s, { outcome := .ok, data := w.statusBytes }) := by
  simp only [watchStatus, State.lookup_handleAt s h]

/-- Settles O42, from the answer to the handle of a live watch (`watchStatus_handleAt`); the cases are those of the last data byte,
a pending notice or none. -/
theorem watchStatusReportsWatch : Obligations.WatchStatusReportsWatch := by
  unfold Obligations.WatchStatusReportsWatch
  intro s i w hw ha
  have hact : requestAct (.watchStatus (s.handleAt i)) s = _ := watchStatus_handleAt hw
  obtain ⟨settings, state, dwellCount, leaseRemaining, lastValue, reference, faultMark, notice⟩ := w
  cases notice with
  | none => exact ⟨_, takes_awaits rfl ha hact rfl rfl, rfl⟩
  | some n => exact ⟨_, takes_awaits rfl ha hact rfl rfl, rfl⟩

end Sys2Proof.Machine
end

section
/-! The entry and exit tests of each kind on the exact integers (R28 to R35), and what one good sample makes of a watch (R37 to
R41, R46). -/

namespace Sys2Proof.Machine

/-! ## The tests of each kind -/

section Tests

variable {w : Watch} (v : Word)

/-- The distance of R31 is the absolute difference of the exact integers. -/
theorem distance_eq_abs (a b : Nat) : (distance a b : Int) = |(a : Int) - b| := by
  unfold distance
  rcases Nat.le_total a b with hle | hle
  · rw [abs_of_nonpos (by omega)]
    omega
  · rw [abs_of_nonneg (by omega)]
    omega

/-- The tests of kind ABOVE (R29, R32). -/
theorem Watch.tests_above (hk : w.settings.kind = .above) :
    (w.entryTest v = true ↔ (w.settings.levelA.toNat : Int) ≤ v.toNat) ∧
    (w.exitTest v = true ↔ (v.toNat : Int) < w.settings.levelA.toNat - w.settings.hysteresis.toNat) := by
  simp only [Watch.entryTest, Watch.exitTest, hk, decide_eq_true_eq]
  omega

/-- The tests of kind BELOW (R29, R32). -/
theorem Watch.tests_below (hk : w.settings.kind = .below) :
    (w.entryTest v = true ↔ (v.toNat : Int) ≤ w.settings.levelA.toNat) ∧
    (w.exitTest v = true ↔ (w.settings.levelA.toNat : Int) + w.settings.hysteresis.toNat < v.toNat) := by
  simp only [Watch.entryTest, Watch.exitTest, hk, decide_eq_true_eq]
  omega

/-- The tests of kind OUTSIDE (R30, R33). -/
theorem Watch.tests_outside (hk : w.settings.kind = .outside) {b : Word} (hb : w.settings.levelB.getD 0#16 = b) :
    (w.entryTest v = true ↔ (v.toNat : Int) < w.settings.levelA.toNat ∨ (b.toNat : Int) < v.toNat) ∧
    (w.exitTest v = true ↔ (w.settings.levelA.toNat : Int) + w.settings.hysteresis.toNat ≤ v.toNat ∧
      (v.toNat : Int) ≤ b.toNat - w.settings.hysteresis.toNat) := by
  simp only [Watch.entryTest, Watch.exitTest, hk, hb, decide_eq_true_eq]
  omega

/-- The tests of kind INSIDE (R30, R34). -/
theorem Watch.tests_inside (hk : w.settings.kind = .inside) {b : Word} (hb : w.settings.levelB.getD 0#16 = b) :
    (w.entryTest v = true ↔ (w.settings.levelA.toNat : Int) ≤ v.toNat ∧ (v.toNat : Int) ≤ b.toNat) ∧
    (w.exitTest v = true ↔ (v.toNat : Int) < w.settings.levelA.toNat - w.settings.hysteresis.toNat ∨
      (b.toNat : Int) + w.settings.hysteresis.toNat < v.toNat) := by
  simp only [Watch.entryTest, Watch.exitTest, hk, hb, decide_eq_true_eq]
  omega

/-- The entry test of kind DELTA (R31). -/
theorem Watch.entryTest_delta (hk : w.settings.kind = .delta) {r : Word} (hr : w.reference = some r) :
    w.entryTest v = true ↔ (w.settings.step.toNat : Int) ≤ |(v.toNat : Int) - r.toNat| := by
  simp only [Watch.entryTest, hk, hr, decide_eq_true_eq, ← distance_eq_abs, Int.ofNat_le]

/-- A DELTA watch has no exit test that a sample passes (R43). -/
theorem Watch.exitTest_delta (hk : w.settings.kind = .delta) : w.exitTest v = false := by
  simp only [Watch.exitTest, hk]

/-- Where the exit region is apart from the entry region, a sample that passes the exit test fails the entry test. -/
theorem Watch.entryTest_of_apart {v : Word} {entry exit : Prop}
    (tests : (w.entryTest v = true ↔ entry) ∧ (w.exitTest v = true ↔ exit)) (apart : exit → ¬ entry)
    (hx : w.exitTest v = true) : w.entryTest v = false :=
  Bool.eq_false_iff.mpr fun he => apart (tests.2.mp hx) (tests.1.mp he)

/-- No sample passes both tests (R35): each exit region lies apart from the entry region by the hysteresis. No kind needs the
settings to fit for it, because a hysteresis is not negative. -/
theorem Watch.entryTest_of_exitTest {v : Word} (hx : w.exitTest v = true) : w.entryTest v = false := by
  cases hk : w.settings.kind with
  | above => exact Watch.entryTest_of_apart (Watch.tests_above v hk) (by omega) hx
  | below => exact Watch.entryTest_of_apart (Watch.tests_below v hk) (by omega) hx
  | outside => exact Watch.entryTest_of_apart (Watch.tests_outside v hk rfl) (by omega) hx
  | inside => exact Watch.entryTest_of_apart (Watch.tests_inside v hk rfl) (by omega) hx
  | delta => exact absurd hx (Bool.eq_false_iff.mp (Watch.exitTest_delta v hk))

end Tests

/-- Settles O18, kind by kind (`Watch.tests_above` to `Watch.entryTest_delta`), with the exclusion by
`Watch.entryTest_of_exitTest`. -/
theorem entryAndExitTestsOfEachKind : Obligations.EntryAndExitTestsOfEachKind := by
  unfold Obligations.EntryAndExitTestsOfEachKind
  intro w v a h x
  refine ⟨Watch.tests_above v, Watch.tests_below v, fun level hl => ?_, fun hk r hr => Watch.entryTest_delta v hk hr,
    fun _ hx => Watch.entryTest_of_exitTest hx⟩
  have hb : w.settings.levelB.getD 0#16 = level := by rw [hl, Option.getD_some]
  exact ⟨fun hk => Watch.tests_outside v hk hb, fun hk => Watch.tests_inside v hk hb⟩

/-! ## A good sample -/

section GoodSample

variable {w : Watch} {v : Word} {n : Nat}

/-- A watch that has heard a good sample, before its state is judged: the fault mark is clear (R46) and the last value is the
sample (R41). -/
def Watch.heard (w : Watch) (v : Word) : Watch := { w with faultMark := false, lastValue := some v }

/-- The tests do not look at the fault mark or the last value (R29 to R31). -/
@[simp] theorem Watch.heard_entryTest : (w.heard v).entryTest v = w.entryTest v := rfl

/-- A level kind trips when its run reaches the dwell (R39, R40). -/
theorem Watch.act_level (hk : w.settings.kind ≠ .delta) :
    w.act v = { watch := { w with state := .tripped, dwellCount := 0 }, posting := some (.trip, v) } := by
  cases h : w.settings.kind with
  | delta => exact absurd h hk
  | _ => simp only [Watch.act, h]

/-- A DELTA watch steps when its run reaches the dwell (R39, R40). -/
theorem Watch.act_delta (hk : w.settings.kind = .delta) :
    w.act v = { watch := { w with state := .quiet, dwellCount := 0, reference := some v }, posting := some (.step, v) } := by
  simp only [Watch.act, hk]

/-- A sample that fails the entry test ends the run (R36). -/
theorem Watch.qualify_fails (h : w.entryTest v = false) :
    w.qualify n v = .unchanged { w with state := .quiet, dwellCount := 0 } :=
  if_neg (Bool.eq_false_iff.mp h)

/-- A qualifying sample that does not complete the dwell is counted (R39, R40). -/
theorem Watch.qualify_counts (h : w.entryTest v = true) (hn : n + 1 < w.settings.dwell) :
    w.qualify n v = .unchanged { w with state := .qualifying, dwellCount := n + 1 } :=
  (if_pos h).trans (if_pos hn)

/-- A qualifying sample that completes the dwell makes the watch act (R39, R40). -/
theorem Watch.qualify_completes (h : w.entryTest v = true) (hn : n + 1 = w.settings.dwell) : w.qualify n v = w.act v :=
  (if_pos h).trans (if_neg hn.not_lt)

/-- A DELTA watch takes its first good sample as its reference (R38). -/
theorem Watch.goodSample_firstOfDelta (hk : w.settings.kind = .delta) (hs : w.state = .arming) :
    w.goodSample v = .unchanged { w.heard v with state := .quiet, dwellCount := 0, reference := some v } := by
  simp only [Watch.goodSample, hs, hk, Watch.heard]

/-- A watch whose run of qualifying samples stands at `n` when a good sample comes: none in QUIET, none in ARMING of a level kind,
the dwell count in QUALIFYING (R37, R39, R40). -/
def Watch.RunAt (w : Watch) (n : Nat) : Prop :=
  (w.state = .quiet ∧ n = 0) ∨ (w.state = .arming ∧ w.settings.kind ≠ .delta ∧ n = 0) ∨
    (w.state = .qualifying ∧ n = w.dwellCount)

/-- A good sample adds to the run or ends it (R37, R39, R40). -/
theorem Watch.goodSample_run (hr : w.RunAt n) : w.goodSample v = (w.heard v).qualify n v := by
  obtain ⟨hs, rfl⟩ | ⟨hs, hk, rfl⟩ | ⟨hs, rfl⟩ := hr
  · simp only [Watch.goodSample, hs, Watch.heard]
  · cases h : w.settings.kind with
    | delta => exact absurd h hk
    | _ => simp only [Watch.goodSample, hs, h, Watch.heard]
  · simp only [Watch.goodSample, hs, Watch.heard]

/-- A TRIPPED watch is released by a sample that passes its exit test, and by no other (R41). -/
theorem Watch.goodSample_tripped (hs : w.state = .tripped) :
    w.goodSample v =
      if w.exitTest v then { watch := { w.heard v with state := .quiet, dwellCount := 0 }, posting := some (.clear, v) }
      else .unchanged (w.heard v) := by
  simp only [Watch.goodSample, hs, Watch.heard]

end GoodSample

/-- Settles O19, by the state the sample finds: the first sample of a DELTA watch (`Watch.goodSample_firstOfDelta`), a run that
goes on or ends (`Watch.goodSample_run`), a TRIPPED watch (`Watch.goodSample_tripped`). -/
theorem goodSampleMoves : Obligations.GoodSampleMoves := by
  unfold Obligations.GoodSampleMoves
  intro w v _ u j
  refine ⟨Watch.goodSample_firstOfDelta, fun n hr => ?_, fun hs => ?_⟩
  · have hj : j = (w.heard v).qualify n v := Watch.goodSample_run hr
    rw [← Watch.heard_entryTest (w := w)]
    exact ⟨fun he => hj.trans (Watch.qualify_fails he),
      fun he hn => hj.trans (Watch.qualify_counts he hn),
      fun he hn hk => (hj.trans (Watch.qualify_completes he hn)).trans (Watch.act_level hk),
      fun he hn hk => (hj.trans (Watch.qualify_completes he hn)).trans (Watch.act_delta hk)⟩
  · have hj := Watch.goodSample_tripped (v := v) hs
    exact ⟨fun hx => hj.trans (if_pos hx), fun hx => hj.trans (if_neg (Bool.eq_false_iff.mp hx))⟩

end Sys2Proof.Machine
end

section
/-! The order of the pending list (R52, R55), and NOTIFYn, which follows its head (R67). -/

namespace Sys2Proof.Machine

/-! ## The pending list in its groups of one priority -/

section Groups

variable {s : State} {i j : SlotId} {p : Fin 8} {ps qs : List (Fin 8)}

/-- The priorities in the order in which the pending list goes through them (R55). -/
def prioritiesDown : List (Fin 8) := [7, 6, 5, 4, 3, 2, 1, 0]

theorem prioritiesDown_sorted : prioritiesDown.Pairwise (· > ·) := by decide

theorem mem_prioritiesDown (p : Fin 8) : p ∈ prioritiesDown := by
  revert p
  decide

/-- The part of the pending list whose watches have the priorities `ps`, taken in the order of `ps`. -/
def State.pendingOf (s : State) (ps : List (Fin 8)) : List SlotId :=
  ps.flatMap fun p => s.joined.filter fun i => s.priorityAt i == some p

theorem State.pendingList_eq (s : State) : s.pendingList = s.pendingOf prioritiesDown := rfl

theorem State.mem_pendingOf : i ∈ s.pendingOf ps ↔ i ∈ s.joined ∧ ∃ p ∈ ps, s.priorityAt i = some p := by
  simp only [State.pendingOf, List.mem_flatMap, List.mem_filter, beq_iff_eq]
  exact ⟨fun ⟨p, hp, hi, hq⟩ => ⟨hi, p, hp, hq⟩, fun ⟨hi, p, hp, hq⟩ => ⟨p, hp, hi, hq⟩⟩

theorem State.pendingOf_append : s.pendingOf (ps ++ qs) = s.pendingOf ps ++ s.pendingOf qs := List.flatMap_append

theorem State.priorityAt_of_mem_pendingList (hi : i ∈ s.pendingList) : ∃ p, s.priorityAt i = some p := by
  rw [State.pendingList_eq] at hi
  obtain ⟨-, p, -, hp⟩ := State.mem_pendingOf.mp hi
  exact ⟨p, hp⟩

end Groups

/-! ## The order of the pending list -/

section Order

variable {s : State} {i j : SlotId} {p q : Fin 8} {rest : List SlotId}

/-- Entry `i` of the pending list may stand before entry `j`: its priority is higher, or the same and it joined earlier (R55). -/
def State.MayPrecede (s : State) (i j : SlotId) : Prop :=
  ∀ p q, s.priorityAt i = some p → s.priorityAt j = some q → q < p ∨ (p = q ∧ s.joined.idxOf i < s.joined.idxOf j)

/-- In a list without repetition the entries stand in the order of their indices. -/
theorem pairwise_idxOf_of_nodup {l : List SlotId} (h : l.Nodup) : l.Pairwise fun i j => l.idxOf i < l.idxOf j := by
  refine List.pairwise_iff_getElem.mpr fun a b ha hb hab => ?_
  rwa [h.idxOf_getElem a ha, h.idxOf_getElem b hb]

/-- The entries of the group of one priority have that priority. -/
theorem State.priority_of_mem_group (hi : i ∈ s.joined.filter fun i => s.priorityAt i == some p)
    (hq : s.priorityAt i = some q) : q = p :=
  Option.some.inj (hq.symm.trans (eq_of_beq (List.mem_filter.mp hi).2))

/-- The pending list is in order (R55): within one priority by joining, and the priorities go down. -/
theorem State.pendingList_pairwise (h : s.joined.Nodup) : s.pendingList.Pairwise s.MayPrecede := by
  refine List.pairwise_flatMap.mpr ⟨fun p _ => ?_, prioritiesDown_sorted.imp fun hlt i hi j hj a b ha hb => .inl ?_⟩
  · refine ((pairwise_idxOf_of_nodup h).filter _).imp_of_mem fun hi hj hlt a b ha hb => .inr ⟨?_, hlt⟩
    exact (State.priority_of_mem_group hi ha).trans (State.priority_of_mem_group hj hb).symm
  · rw [State.priority_of_mem_group hi ha, State.priority_of_mem_group hj hb]
    exact hlt

/-- No entry may precede itself, so none stands twice in the list. -/
theorem State.pendingList_nodup (h : s.joined.Nodup) : s.pendingList.Nodup := by
  refine (State.pendingList_pairwise h).imp_of_mem fun hi _ hij heq => ?_
  obtain ⟨p, hp⟩ := State.priorityAt_of_mem_pendingList hi
  subst heq
  rcases hij p p hp hp with hlt | ⟨-, hlt⟩
  · exact lt_irrefl _ hlt
  · exact lt_irrefl _ hlt

theorem State.pendingList_perm (h : s.TableSound) : s.pendingList.Perm s.joined :=
  (List.perm_ext_iff_of_nodup (State.pendingList_nodup h.joinedOnce) h.joinedOnce).mpr fun _ => State.mem_pendingList h

/-- No entry has a higher priority than the head (R55). -/
theorem State.le_priorityAt_head (h : s.joined.Nodup) (hl : s.pendingList = i :: rest) (hj : j ∈ s.pendingList)
    (hp : s.priorityAt i = some p) (hq : s.priorityAt j = some q) : q ≤ p := by
  have hsorted := State.pendingList_pairwise h
  rw [hl] at hsorted hj
  rcases List.mem_cons.mp hj with rfl | hj
  · exact (Option.some.inj (hq.symm.trans hp)).le
  · rcases List.rel_of_pairwise_cons hsorted hj p q hp hq with hlt | ⟨heq, -⟩
    · exact hlt.le
    · exact heq.ge

end Order

/-! ## Joining the pending list -/

section Joining

variable {s : State} {i j : SlotId} {p q : Fin 8} {ps : List (Fin 8)}

/-- Entry `j` stays ahead of a slot that joins with priority `p`: its priority is the same or higher (R52). -/
def State.staysAhead (s : State) (p : Fin 8) (j : SlotId) : Bool :=
  match s.priorityAt j with
  | some q => decide (p ≤ q)
  | none => false

theorem State.staysAhead_some (hq : s.priorityAt j = some q) : s.staysAhead p j = decide (p ≤ q) := by
  simp only [State.staysAhead, hq]

/-- A slot that joins is the last of its own priority (R52). -/
theorem State.pendingOf_join_same (hp : s.priorityAt i = some p) :
    State.pendingOf { s with joined := s.joined ++ [i] } [p] = s.pendingOf [p] ++ [i] := by
  have last : [i].filter (fun j => s.priorityAt j == some p) = [i] := by simp [hp]
  calc State.pendingOf { s with joined := s.joined ++ [i] } [p]
      = (s.joined ++ [i]).filter (fun j => s.priorityAt j == some p) := List.flatMap_singleton _ _
    _ = s.joined.filter (fun j => s.priorityAt j == some p) ++ [i] := by rw [List.filter_append, last]
    _ = s.pendingOf [p] ++ [i] := congrArg (· ++ [i]) (List.flatMap_singleton _ _).symm

/-- A slot that joins leaves the entries of the other priorities as they are (R52). -/
theorem State.pendingOf_join_other (hp : s.priorityAt i = some p) (hn : p ∉ ps) :
    State.pendingOf { s with joined := s.joined ++ [i] } ps = s.pendingOf ps := by
  refine List.flatMap_congr fun q hq => ?_
  have hne : p ≠ q := fun heq => hn (heq ▸ hq)
  have absent : [i].filter (fun j => s.priorityAt j == some q) = [] := by simp [hp, hne]
  change (s.joined ++ [i]).filter (fun j => s.priorityAt j == some q) = _
  rw [List.filter_append, absent, List.append_nil]

/-- The priorities from 7 to 0 fall into those above `p`, `p` itself, and those below. -/
theorem prioritiesDown_split (p : Fin 8) :
    ∃ above below, prioritiesDown = (above ++ [p]) ++ below ∧ (∀ q ∈ above, p < q) ∧ ∀ q ∈ below, q < p := by
  obtain ⟨above, below, h⟩ := List.append_of_mem (mem_prioritiesDown p)
  have hsorted := prioritiesDown_sorted
  rw [h] at hsorted
  obtain ⟨-, hbelow, habove⟩ := List.pairwise_append.mp hsorted
  exact ⟨above, below, by simp [h], fun q hq => habove q hq p List.mem_cons_self, fun q => List.rel_of_pairwise_cons hbelow⟩

/-- A list whose first part satisfies `f` and whose second part does not is cut between them by filtering. -/
theorem filter_append_cut {l m : List SlotId} {f : SlotId → Bool} (hl : ∀ x ∈ l, f x = true) (hm : ∀ x ∈ m, f x = false) :
    (l ++ m).filter f = l ∧ (l ++ m).filter (fun x => !f x) = m := by
  rw [List.filter_append, List.filter_append]
  constructor
  · rw [List.filter_eq_self.mpr hl, List.filter_eq_nil_iff.mpr fun x hx => by simp [hm x hx], List.append_nil]
  · rw [List.filter_eq_nil_iff.mpr fun x hx => by simp [hl x hx], List.filter_eq_self.mpr fun x hx => by simp [hm x hx],
      List.nil_append]

/-- A slot that joins stands after every entry whose priority is the same or higher and before every other (R52). -/
theorem State.pendingList_join (hp : s.priorityAt i = some p) :
    State.pendingList { s with joined := s.joined ++ [i] } =
      s.pendingList.filter (s.staysAhead p) ++ i :: s.pendingList.filter (fun j => !s.staysAhead p j) := by
  obtain ⟨above, below, hsplit, habove, hbelow⟩ := prioritiesDown_split p
  have ahead : ∀ j ∈ s.pendingOf (above ++ [p]), s.staysAhead p j = true := by
    intro j hj
    obtain ⟨-, q, hq, hjq⟩ := State.mem_pendingOf.mp hj
    rw [State.staysAhead_some hjq, decide_eq_true_iff]
    rcases List.mem_append.mp hq with hq | hq
    · exact (habove q hq).le
    · exact (List.mem_singleton.mp hq).ge
  have behind : ∀ j ∈ s.pendingOf below, s.staysAhead p j = false := by
    intro j hj
    obtain ⟨-, q, hq, hjq⟩ := State.mem_pendingOf.mp hj
    rw [State.staysAhead_some hjq, decide_eq_false_iff_not]
    exact (hbelow q hq).not_ge
  have hlist : s.pendingList = s.pendingOf (above ++ [p]) ++ s.pendingOf below := by
    rw [State.pendingList_eq, hsplit, State.pendingOf_append]
  obtain ⟨hfront, hback⟩ := filter_append_cut ahead behind
  rw [hlist, hfront, hback, State.pendingList_eq, hsplit, State.pendingOf_append, State.pendingOf_append,
    State.pendingOf_append, State.pendingOf_join_same hp,
    State.pendingOf_join_other hp fun h => lt_irrefl p (habove p h),
    State.pendingOf_join_other hp fun h => lt_irrefl p (hbelow p h)]
  simp only [List.append_assoc, List.singleton_append]

end Joining

/-- Settles O23, from the order of the list (`State.pendingList_pairwise`) and the joining place (`State.pendingList_join`). -/
theorem pendingListOrder : Obligations.PendingListOrder := by
  unfold Obligations.PendingListOrder
  intro s h
  exact ⟨State.pendingList_perm h, State.pendingList_pairwise h.joinedOnce, fun i p _ hp => State.pendingList_join hp⟩

/-! ## NOTIFYn -/

section NotifyLine

variable {s : State}

/-- NOTIFYn is asserted when enabled with some entry at or above the threshold (R67). -/
theorem State.notifyAsserted_iff (h : s.TableSound) :
    s.notifyAsserted = true ↔
      s.notify.enable = true ∧ ∃ i ∈ s.pendingList, ∃ p, s.priorityAt i = some p ∧ s.notify.threshold ≤ p := by
  simp only [State.notifyAsserted, Bool.and_eq_true, List.any_eq_true, State.mem_pendingList h]
  refine and_congr_right fun _ => exists_congr fun i => and_congr_right fun _ => ?_
  cases s.priorityAt i <;> simp

/-- Some entry is at or above a threshold when the head is, because no entry has a higher priority than the head (R55). -/
theorem State.exists_priority_ge_iff_head (h : s.joined.Nodup) (threshold : Fin 8) :
    (∃ i ∈ s.pendingList, ∃ p, s.priorityAt i = some p ∧ threshold ≤ p) ↔
      ∃ i p, s.pendingList.head? = some i ∧ s.priorityAt i = some p ∧ threshold ≤ p := by
  constructor
  · rintro ⟨j, hj, q, hq, hle⟩
    obtain ⟨i, rest, hl⟩ := List.exists_cons_of_ne_nil (List.ne_nil_of_mem hj)
    have hi : i ∈ s.pendingList := by simp [hl]
    obtain ⟨p, hp⟩ := State.priorityAt_of_mem_pendingList hi
    exact ⟨i, p, by simp [hl], hp, hle.trans (State.le_priorityAt_head h hl hj hp hq)⟩
  · rintro ⟨i, p, hi, hp, hle⟩
    exact ⟨i, List.mem_of_head? hi, p, hp, hle⟩

end NotifyLine

/-- Settles O24: the reading over all entries is `State.notifyAsserted_iff`, and the head stands for them by
`State.exists_priority_ge_iff_head`. -/
theorem notifyLineFollowsHead : Obligations.NotifyLineFollowsHead := by
  unfold Obligations.NotifyLineFollowsHead
  intro s h
  have hany := State.notifyAsserted_iff h
  exact ⟨hany.trans (and_congr_right fun _ => State.exists_priority_ge_iff_head h.joinedOnce _), hany⟩

end Sys2Proof.Machine
end

section
/-! NOTIFY-SET (R66). -/

namespace Sys2Proof.Machine

section NotifySet

variable {s : State} {enable threshold : Byte}

theorem priorityOf_some {n : Nat} (h : n < 8) : priorityOf n = some ⟨n, h⟩ := dif_pos h

theorem priorityOf_none {n : Nat} (h : 7 < n) : priorityOf n = none := dif_neg (by omega)

/-- NOTIFY-SET with arguments in their ranges writes the setting and reports it (R66). -/
theorem notifySet_accepts (on : Bool) (h : threshold.toNat < 8) :
    notifySet (flagByte on) threshold s =
      ({ s with notify := { enable := on, threshold := ⟨threshold.toNat, h⟩ } },
        { outcome := .ok, data := [flagByte on, threshold] }) := by
  simp only [notifySet, flagOf_flagByte, priorityOf_some h, BitVec.ofNat_toNat, BitVec.setWidth_eq]

/-- NOTIFY-SET with an argument out of its range leaves the setting as it was (R66). -/
theorem notifySet_refuses (h : 1 < enable.toNat ∨ 7 < threshold.toNat) :
    notifySet enable threshold s = (s, zeroAnswer .badArg 2) := by
  rcases h with h | h
  · simp only [notifySet, flagOf_none h]
  · cases he : flagOf enable.toNat <;> simp only [notifySet, he, priorityOf_none h]

end NotifySet

/-- Settles O29, by the two outcomes of the request (`notifySet_accepts`, `notifySet_refuses`). -/
theorem notifySetWritesSetting : Obligations.NotifySetWritesSetting := by
  unfold Obligations.NotifySetWritesSetting
  intro s e th ha
  constructor
  · rintro on rfl h
    exact ⟨_, takes_awaits rfl ha (notifySet_accepts on h) rfl rfl, rfl⟩
  · intro h
    exact ⟨_, takes_awaits rfl ha (notifySet_refuses h) rfl rfl, rfl⟩

end Sys2Proof.Machine
end

section
/-! TIMEBASE-SET and TIMEBASE-GET (R74, R76). -/

namespace Sys2Proof.Machine

section TimebaseSet

variable {s : State} {period : Word}

/-- TIMEBASE-SET of 0 leaves the period setting as it was (R74). -/
theorem timebaseSet_refuses : timebaseSet 0#16 s = (s, zeroAnswer .badArg 4) := if_pos rfl

/-- TIMEBASE-SET of any other period writes the setting, and reports it with the period still in effect (R74). -/
theorem timebaseSet_accepts (h : period ≠ 0#16) :
    timebaseSet period s =
      ({ s with timeBase := { s.timeBase with periodSetting := period } },
        { outcome := .ok, data := wordBytes period ++ wordBytes s.timeBase.periodInEffect }) := if_neg h

end TimebaseSet

/-- Settles O34, by the two outcomes of TIMEBASE-SET (`timebaseSet_refuses`, `timebaseSet_accepts`) and the one of TIMEBASE-GET,
whose action is its definition. -/
theorem timebaseRequestsReportPeriods : Obligations.TimebaseRequestsReportPeriods := by
  unfold Obligations.TimebaseRequestsReportPeriods
  refine ⟨fun s p ha => ⟨?_, fun hp => ?_⟩, fun s ha => ?_⟩
  · rintro rfl
    exact ⟨_, takes_awaits rfl ha timebaseSet_refuses rfl rfl, rfl⟩
  · exact ⟨_, takes_awaits rfl ha (timebaseSet_accepts hp) rfl rfl, rfl⟩
  · have hact : requestAct .timebaseGet s = (s, { outcome := .ok, data := s.periodBytes }) := rfl
    exact ⟨_, takes_awaits rfl ha hact rfl rfl, rfl⟩

end Sys2Proof.Machine
end

section
/-! The fields of the compose buffer as a list of codes, and COMPOSE-WRITE, COMPOSE-CLEAR and COMPOSE-READ over it (R90 to R93). -/

namespace Sys2Proof.Machine

/-! ## The fields in their codes -/

section Fields

variable {b : ComposeBuffer}

/-- What fields 0 to 10 hold, each in its code (R90, R93). -/
def ComposeBuffer.values (b : ComposeBuffer) : List Word :=
  [b.owner.setWidth 16, BitVec.ofNat 16 b.channel.val, (watchKindByte b.kind).setWidth 16, b.levelA, b.levelB,
   b.hysteresis.setWidth 16, BitVec.ofNat 16 b.dwell, b.step, BitVec.ofNat 16 b.priority.val, b.lease,
   (flagByte b.startSuspended).setWidth 16]

/-- A field id is the field's place in the list, and an id above 10 has none (R93). -/
theorem ComposeBuffer.read_eq (f : Byte) : b.read f = b.values[f.toNat]? := by
  unfold ComposeBuffer.read
  generalize f.toNat = n
  match n with
  | 0 | 1 | 2 | 3 | 4 | 5 | 6 | 7 | 8 | 9 | 10 => rfl
  | n + 11 => rfl

theorem ComposeBuffer.read_none {f : Byte} (h : 10 < f.toNat) : b.read f = none :=
  (ComposeBuffer.read_eq f).trans (List.getElem?_eq_none h)

/-- A buffer in which one field was replaced reads the new value there, and elsewhere what it read before. -/
theorem ComposeBuffer.read_of_set {b' : ComposeBuffer} {f : Byte} {v : Word} (hf : f.toNat ≤ 10)
    (h : b'.values = b.values.set f.toNat v) (g : Byte) : b'.read g = if g = f then some v else b.read g := by
  rw [ComposeBuffer.read_eq, ComposeBuffer.read_eq, h]
  split_ifs with hg
  · subst hg
    exact List.getElem?_set_self (Nat.lt_succ_of_le hf)
  · exact List.getElem?_set_ne fun heq => hg (BitVec.eq_of_toNat_eq heq.symm)

end Fields

/-! ## Readers of codes -/

/-- A reader answers exactly when `ok` holds, and what it then answers has the code `v`. -/
structure ReadsCode {α β : Type} (answer : Option α) (code : α → β) (v : β) (ok : Prop) : Prop where
  accepts : ok → ∃ x, answer = some x ∧ code x = v
  refuses : ¬ ok → answer = none

section Readers

variable {α β γ δ : Type} {answer : Option α} {code : α → β} {v : β} {ok ok' : Prop}

theorem ReadsCode.congr (h : ReadsCode answer code v ok) (hok : ok' ↔ ok) : ReadsCode answer code v ok' where
  accepts ha := h.accepts (hok.mp ha)
  refuses hr := h.refuses fun ha => hr (hok.mpr ha)

/-- What is made of a value that was read has the code made of the value's code. -/
theorem ReadsCode.map {g : α → γ} {code' : γ → δ} {k : β → δ} (h : ReadsCode answer code v ok)
    (hg : ∀ x, code' (g x) = k (code x)) : ReadsCode (answer.map g) code' (k v) ok where
  accepts ha := by
    obtain ⟨x, rfl, rfl⟩ := h.accepts ha
    exact ⟨g x, rfl, hg x⟩
  refuses hr := by rw [h.refuses hr, Option.map_none]

/-- A reader that checks a range and then takes the value as it is. -/
theorem ReadsCode.ite [Decidable ok] {x : α} (hx : ok → code x = v) :
    ReadsCode (if ok then some x else none) code v ok where
  accepts ha := ⟨x, if_pos ha, hx ha⟩
  refuses hr := if_neg hr

/-- A reader that refuses some values and takes the others as they are. -/
theorem ReadsCode.iteNot [Decidable ok] {x : α} (hx : code x = v) :
    ReadsCode (if ok then none else some x) code v (¬ ok) where
  accepts ha := ⟨x, if_neg ha, hx⟩
  refuses hr := if_pos (not_not.mp hr)

/-- A reader that takes every value. -/
theorem ReadsCode.always {x : α} (hx : code x = v) : ReadsCode (some x) code v True where
  accepts _ := ⟨x, rfl, hx⟩
  refuses hr := absurd trivial hr

end Readers

section Codes

variable (w : Word)

theorem tagOf_reads : ReadsCode (tagOf w) (fun t => t.setWidth 16) w (w.toNat ≤ 2047) :=
  .ite fun h => BitVec.setWidth_setWidth_eq_self (Nat.lt_succ_of_le h)

theorem channelOf_reads : ReadsCode (channelOf w.toNat) (fun c => BitVec.ofNat 16 c.val) w (w.toNat ≤ 14) where
  accepts h := ⟨⟨w.toNat, by omega⟩, channelOf_some rfl, by simp⟩
  refuses h := channelOf_none (by omega)

theorem priorityOf_reads : ReadsCode (priorityOf w.toNat) (fun p => BitVec.ofNat 16 p.val) w (w.toNat ≤ 7) where
  accepts h := ⟨⟨w.toNat, by omega⟩, priorityOf_some (by omega), by simp⟩
  refuses h := priorityOf_none (by omega)

@[simp] theorem watchKindOf_watchKindByte (k : WatchKind) : watchKindOf (watchKindByte k).toNat = some k := by
  cases k <;> rfl

theorem watchKindOf_none {n : Nat} (h : 4 < n) : watchKindOf n = none := by
  unfold watchKindOf
  split <;> first | omega | rfl

/-- The kinds have the codes 0 to 4 (R90). -/
theorem exists_watchKindByte {n : Nat} (h : n ≤ 4) : ∃ k, (watchKindByte k).toNat = n := by
  match n with
  | 0 => exact ⟨.above, rfl⟩
  | 1 => exact ⟨.below, rfl⟩
  | 2 => exact ⟨.outside, rfl⟩
  | 3 => exact ⟨.inside, rfl⟩
  | 4 => exact ⟨.delta, rfl⟩

theorem exists_flagByte {n : Nat} (h : n ≤ 1) : ∃ on, (flagByte on).toNat = n := by
  match n with
  | 0 => exact ⟨false, rfl⟩
  | 1 => exact ⟨true, rfl⟩

/-- A byte widened to a word is the word when the two are the same number. -/
theorem byte_setWidth_of_toNat {a : Byte} (h : a.toNat = w.toNat) : a.setWidth 16 = w := by
  bv_omega

theorem watchKindOf_reads :
    ReadsCode (watchKindOf w.toNat) (fun k => (watchKindByte k).setWidth 16) w (w.toNat ≤ 4) where
  accepts h := by
    obtain ⟨k, hk⟩ := exists_watchKindByte h
    exact ⟨k, hk ▸ watchKindOf_watchKindByte k, byte_setWidth_of_toNat w hk⟩
  refuses h := watchKindOf_none (by omega)

theorem flagOf_reads : ReadsCode (flagOf w.toNat) (fun on => (flagByte on).setWidth 16) w (w.toNat ≤ 1) where
  accepts h := by
    obtain ⟨on, hon⟩ := exists_flagByte h
    exact ⟨on, hon ▸ flagOf_flagByte on, byte_setWidth_of_toNat w hon⟩
  refuses h := flagOf_none (by omega)

end Codes

/-! ## COMPOSE-WRITE -/

section ComposeWrite

variable {b : ComposeBuffer} {f : Byte} {v : Word} {s : State}

/-- The table of R92: the ids and the values that COMPOSE-WRITE accepts. -/
def FieldAccepts (f : Byte) (v : Word) : Prop :=
  (f.toNat = 0 ∧ v.toNat ≤ 2047) ∨ (f.toNat = 1 ∧ v.toNat ≤ 14) ∨ (f.toNat = 2 ∧ v.toNat ≤ 4) ∨ f.toNat = 3 ∨ f.toNat = 4 ∨
    (f.toNat = 5 ∧ v.toNat ≤ 1023) ∨ (f.toNat = 6 ∧ 1 ≤ v.toNat ∧ v.toNat ≤ 64) ∨ (f.toNat = 7 ∧ 1 ≤ v.toNat) ∨
    (f.toNat = 8 ∧ v.toNat ≤ 7) ∨ f.toNat = 9 ∨ (f.toNat = 10 ∧ v.toNat ≤ 1)

theorem FieldAccepts.le (h : FieldAccepts f v) : f.toNat ≤ 10 := by
  unfold FieldAccepts at h
  omega

/-- COMPOSE-WRITE replaces the one field by the value, exactly when the table of R92 accepts it. -/
theorem ComposeBuffer.write_reads (b : ComposeBuffer) (f : Byte) (v : Word) :
    ReadsCode (b.write f v) ComposeBuffer.values (b.values.set f.toNat v) (FieldAccepts f v) := by
  unfold ComposeBuffer.write FieldAccepts
  generalize f.toNat = n
  match n with
  | 0 => exact .congr (.map (k := b.values.set 0) (tagOf_reads v) fun _ => rfl) (by simp)
  | 1 => exact .congr (.map (k := b.values.set 1) (channelOf_reads v) fun _ => rfl) (by simp)
  | 2 => exact .congr (.map (k := b.values.set 2) (watchKindOf_reads v) fun _ => rfl) (by simp)
  | 3 => exact .congr (.always rfl) (by simp)
  | 4 => exact .congr (.always rfl) (by simp)
  | 5 =>
    have hwidth (h : v.toNat ≤ 1023) : (v.setWidth 10).setWidth 16 = v :=
      BitVec.setWidth_setWidth_eq_self (Nat.lt_succ_of_le h)
    exact .congr (.ite fun h => congrArg (b.values.set 5) (hwidth h)) (by simp)
  | 6 =>
    have hword : BitVec.ofNat 16 v.toNat = v := by simp
    exact .congr (.ite fun _ => congrArg (b.values.set 6) hword) (by simp)
  | 7 =>
    have hpos : 1 ≤ v.toNat ↔ v ≠ 0#16 := by bv_omega
    exact .congr (.iteNot rfl) (by simpa using hpos)
  | 8 => exact .congr (.map (k := b.values.set 8) (priorityOf_reads v) fun _ => rfl) (by simp)
  | 9 => exact .congr (.always rfl) (by simp)
  | 10 => exact .congr (.map (k := b.values.set 10) (flagOf_reads v) fun _ => rfl) (by simp)
  | n + 11 => exact ⟨fun h => by omega, fun _ => rfl⟩

/-- An accepted COMPOSE-WRITE writes the field and reports the value it now holds (R92). -/
theorem composeWrite_accepts (h : FieldAccepts f v) :
    ∃ b, composeWrite f v s = ({ s with compose := b }, { outcome := .ok, data := f :: wordBytes v }) ∧
      ∀ g, b.read g = if g = f then some v else s.compose.read g := by
  obtain ⟨b, hw, hb⟩ := (s.compose.write_reads f v).accepts h
  have hread := ComposeBuffer.read_of_set h.le hb
  have hf : b.read f = some v := (hread f).trans (if_pos rfl)
  exact ⟨b, by simp only [composeWrite, hw, hf, Option.getD_some], hread⟩

theorem composeWrite_refuses (h : ¬ FieldAccepts f v) : composeWrite f v s = (s, zeroAnswer .badArg 3) := by
  simp only [composeWrite, (s.compose.write_reads f v).refuses h]

end ComposeWrite

/-- Settles O35, by the two outcomes of the request (`composeWrite_accepts`, `composeWrite_refuses`). -/
theorem composeWriteChecksItsField : Obligations.ComposeWriteChecksItsField := by
  unfold Obligations.ComposeWriteChecksItsField
  intro s f v ha n accepted
  constructor
  · intro h
    obtain ⟨b, hact, hread⟩ := composeWrite_accepts (s := s) h
    exact ⟨_, takes_awaits rfl ha hact rfl rfl, rfl, hread⟩
  · intro h
    exact ⟨_, takes_awaits rfl ha (composeWrite_refuses h) rfl rfl, rfl⟩

/-! ## COMPOSE-CLEAR and COMPOSE-READ -/

section ComposeRead

variable {f : Byte} {s : State}

/-- COMPOSE-READ reports the value of a field that the buffer has (R93). -/
theorem composeRead_reports {v : Word} (h : s.compose.values[f.toNat]? = some v) :
    composeRead f s = (s, { outcome := .ok, data := f :: wordBytes v }) := by
  simp only [composeRead, ComposeBuffer.read_eq, h]

theorem composeRead_refuses (h : 10 < f.toNat) : composeRead f s = (s, zeroAnswer .badArg 3) := by
  simp only [composeRead, ComposeBuffer.read_none h]

end ComposeRead

/-- Settles O36: COMPOSE-CLEAR's action is its definition, and COMPOSE-READ has two outcomes (`composeRead_reports`,
`composeRead_refuses`). -/
theorem composeClearAndReadAnswer : Obligations.ComposeClearAndReadAnswer := by
  unfold Obligations.ComposeClearAndReadAnswer
  refine ⟨fun s ha => ?_, fun s f ha => ⟨fun v hv => ?_, fun hf => ?_⟩⟩
  · have hact : requestAct .composeClear s = ({ s with compose := ComposeBuffer.defaults }, { outcome := .ok, data := [] }) := rfl
    exact ⟨_, takes_awaits rfl ha hact rfl rfl, rfl⟩
  · exact ⟨_, takes_awaits rfl ha (composeRead_reports hv) rfl rfl, rfl⟩
  · exact ⟨_, takes_awaits rfl ha (composeRead_refuses hf) rfl rfl, rfl⟩

end Sys2Proof.Machine
end

section
/-! The requests that free watches: RETIRE, RETIRE-TAGGED and RESET-TABLE (R106, R111, R121). -/

namespace Sys2Proof.Machine

section Freeing

variable {s : State}

/-- RETIRE of a live watch frees its slot and reports the notice it discards (R106). -/
theorem retire_handleAt {i : SlotId} {w : Watch} (h : s.watchAt i = some w) :
    retire (s.handleAt i) s =
      (s.freeWatches fun j _ => j == i, { outcome := .ok, data := [pendingKindByte w.notice] }) := by
  simp only [retire, s.lookup_handleAt h]

/-- A tagged request with a tag and a mask of eleven bits acts (R115). -/
theorem tagged_setWidth (tag mask : BitVec 11) (n : Nat) (act : BitVec 11 → BitVec 11 → State → State × Answer) :
    tagged (tag.setWidth 16) (mask.setWidth 16) n act s = act tag mask s := by
  simp only [tagged, tagOf_setWidth]

/-- When every live watch is freed, the pending list is left empty, because only live watches are in it (R51, R111). -/
theorem State.TableSound.joined_freeAll (h : s.TableSound) : (s.freeWatches fun _ _ => true).joined = [] := by
  refine List.filter_eq_nil_iff.mpr fun i hi => ?_
  obtain ⟨w, hw, -⟩ := (h.listed i).mp hi
  simp [s.selects_some hw]

/-- RESET-TABLE frees every live watch, and its emptied list is the one that freeing leaves (R20, R111). -/
theorem resetTable_onlyFreed (h : s.TableSound) (request : List Byte) (a : Answer) :
    OnlyFreed (fun _ _ => true) s { (resetTable s).1.answer request a with compose := s.compose } where
  rest := rfl
  joined := h.joined_freeAll.symm
  freed := (s.freeWatches_onlyFreed (fun _ _ => true) request a).freed
  kept := (s.freeWatches_onlyFreed (fun _ _ => true) request a).kept

end Freeing

/-- Settles O43, request by request: RETIRE (`retire_handleAt`), RETIRE-TAGGED (`tagged_setWidth`) and RESET-TABLE
(`resetTable_onlyFreed`). -/
theorem freeingRequestsFreeSlots : Obligations.FreeingRequestsFreeSlots := by
  unfold Obligations.FreeingRequestsFreeSlots
  refine ⟨fun s i w hw ha => ?_, fun s tag mask => ?_, fun s hs ha => ?_⟩
  · have htakes := takes_awaits rfl ha (retire_handleAt hw) rfl rfl
    rw [pendingKindByte_eq] at htakes
    exact ⟨_, htakes, s.freeWatches_onlyFreed _ _ _⟩
  · intro c ha
    have hact : requestAct c s = retireTagged tag mask s := tagged_setWidth tag mask 1 retireTagged
    exact ⟨_, takes_awaits rfl ha hact rfl rfl, s.freeWatches_onlyFreed _ _ _⟩
  · have hact : requestAct .resetTable s = resetTable s := rfl
    exact ⟨_, answered_awaits rfl ha hact, rfl, rfl, rfl, rfl, resetTable_onlyFreed hs _ _⟩

end Sys2Proof.Machine
end

section
/-! How a tagged request selects watches: the comparison of owner and tag under the mask (R114). -/

namespace Sys2Proof.Machine

section Matching

/-- A request selects a slot when it holds a live watch that the request's predicate accepts; a FREE slot is never selected. -/
theorem State.selects_iff {s : State} {p : SlotId → Watch → Bool} {i : SlotId} :
    s.selects p i = true ↔ ∃ x, s.watchAt i = some x ∧ p i x = true := by
  cases hw : s.watchAt i with
  | none => simp [State.selects_none s hw]
  | some w => simp [State.selects_some s hw]

theorem State.selects_eq_false {s : State} {p : SlotId → Watch → Bool} {i : SlotId}
    (h : ∀ x, s.watchAt i = some x → p i x = false) : s.selects p i = false := by
  refine Bool.eq_false_iff.mpr fun hsel => ?_
  obtain ⟨x, hx, hp⟩ := State.selects_iff.mp hsel
  exact Bool.false_ne_true ((h x hx).symm.trans hp)

variable (w : Watch) (tag mask : BitVec 11)

/-- The masked difference of owner and tag is 0 when it is 0 in every bit (R114). -/
theorem Watch.tagMatch_iff : w.tagMatch tag mask = true ↔
    ∀ k : Nat, k < 11 → mask.getLsbD k = true → w.settings.owner.getLsbD k = tag.getLsbD k := by
  have hbit (a b m : Bool) : ((a ^^ b) && m) = false ↔ (m = true → a = b) := by cases m <;> simp
  simp only [Watch.tagMatch, beq_iff_eq, BitVec.eq_of_getLsbD_eq_iff, BitVec.getLsbD_and, BitVec.getLsbD_xor,
    BitVec.getLsbD_zero, hbit]

theorem Watch.tagMatch_zero : w.tagMatch tag 0#11 = true :=
  (w.tagMatch_iff tag 0#11).mpr fun _ _ hm => by simp at hm

theorem Watch.tagMatch_allOnes : w.tagMatch tag 2047#11 = true ↔ w.settings.owner = tag := by
  have hones : 2047#11 = BitVec.allOnes 11 := by decide
  rw [Watch.tagMatch_iff, BitVec.eq_of_getLsbD_eq_iff, hones]
  exact forall₂_congr fun k hk => by simp only [BitVec.getLsbD_allOnes, hk, decide_true, forall_const]

end Matching

/-- Settles O44: the comparison bit by bit (`Watch.tagMatch_iff`), its two extreme masks, and the selection of live watches
(`State.selects_iff`). The comparison reads the owner alone, so another state leaves it as it is. -/
theorem tagMatchComparesMaskedBits : Obligations.TagMatchComparesMaskedBits := by
  unfold Obligations.TagMatchComparesMaskedBits
  intro w tag mask
  exact ⟨w.tagMatch_iff tag mask, w.tagMatch_zero tag, w.tagMatch_allOnes tag, fun _ => rfl, fun _ _ _ => State.selects_iff⟩

end Sys2Proof.Machine
end

section
/-! The tagged requests that change or count watches (R115 to R123). -/

namespace Sys2Proof.Machine

section Tagged

variable {s : State}

/-- A tagged request with a tag or a mask above 2047 changes nothing (R115). -/
theorem tagged_refuses {tag mask : Word} (n : Nat) (act : BitVec 11 → BitVec 11 → State → State × Answer)
    (h : 2047 < tag.toNat ∨ 2047 < mask.toNat) : tagged tag mask n act s = (s, zeroAnswer .badArg n) := by
  rcases h with h | h
  · simp only [tagged, tagOf_none h]
  · cases ht : tagOf tag <;> simp only [tagged, ht, tagOf_none h]

theorem Watch.counting_eq (w : Watch) : w.counting = decide (w.settings.lease ≠ 0#16 ∧ w.state ≠ .expired) := by
  rw [Bool.eq_iff_iff]
  simp [Watch.counting, Watch.isExpired]

theorem Watch.inService_eq (w : Watch) : w.inService = decide (w.state ≠ .suspended ∧ w.state ≠ .expired) := by
  rw [Bool.eq_iff_iff, w.inService_iff, decide_eq_true_iff]

/-- A change of the matching watches that `sel` selects leaves every other watch as it is (R116). -/
theorem State.mapMatching_onlyWatches (sel : Watch → Bool) (f : Watch → Watch) (tag mask : BitVec 11) (request : List Byte)
    (a : Answer) :
    OnlyWatches (fun w => if w.tagMatch tag mask ∧ sel w then f w else w) s
      ((s.mapWatches fun _ w => if w.tagMatch tag mask && sel w then f w else w).answer request a) := by
  simp only [← Bool.and_eq_true]
  exact s.mapWatches_onlyWatches _ _ _

end Tagged

/-- Settles O45: the refusals by `tagged_refuses`, and each accepted request by what it selects (`Watch.counting_eq`,
`Watch.inService_eq`) and what it makes of the watches selected (`State.mapMatching_onlyWatches`). -/
theorem taggedRequestsActOnMatches : Obligations.TaggedRequestsActOnMatches := by
  unfold Obligations.TaggedRequestsActOnMatches
  refine ⟨fun s tag mask c n hc ha hbad => ?_, fun s tag mask => ⟨fun ha => ?_, fun ha => ?_, fun ha => ?_, fun ha => ?_⟩⟩
  · obtain ⟨hwf, hact⟩ : c.wellFormed = true ∧ requestAct c s = (s, zeroAnswer .badArg n) := by
      simp only [List.mem_cons, List.not_mem_nil, or_false, Prod.mk.injEq] at hc
      rcases hc with ⟨rfl, rfl⟩ | ⟨rfl, rfl⟩ | ⟨rfl, rfl⟩ | ⟨rfl, rfl⟩ | ⟨rfl, rfl⟩ <;>
        exact ⟨rfl, tagged_refuses _ _ hbad⟩
    exact ⟨_, takes_awaits hwf ha hact rfl rfl, rfl⟩
  · have hact : requestAct (.renewTagged (tag.setWidth 16) (mask.setWidth 16)) s = renewTagged tag mask s :=
      tagged_setWidth tag mask 2 renewTagged
    simp only [renewTagged, Watch.counting_eq] at hact
    exact ⟨_, takes_awaits rfl ha hact rfl rfl, s.mapMatching_onlyWatches _ (·.reload) tag mask _ _⟩
  · have hact : requestAct (.suspendTagged (tag.setWidth 16) (mask.setWidth 16)) s = suspendTagged tag mask s :=
      tagged_setWidth tag mask 1 suspendTagged
    simp only [suspendTagged, changeMatching, Watch.inService_eq] at hact
    exact ⟨_, takes_awaits rfl ha hact rfl rfl, s.mapMatching_onlyWatches _ (·.suspended) tag mask _ _⟩
  · have hact : requestAct (.resumeTagged (tag.setWidth 16) (mask.setWidth 16)) s = resumeTagged tag mask s :=
      tagged_setWidth tag mask 1 resumeTagged
    have hwatches := s.mapMatching_onlyWatches (·.state == .suspended) (·.resumed) tag mask
    simp only [beq_iff_eq] at hwatches
    exact ⟨_, takes_awaits rfl ha hact rfl rfl, hwatches _ _⟩
  · have hact : requestAct (.countTagged (tag.setWidth 16) (mask.setWidth 16)) s = countTagged tag mask s :=
      tagged_setWidth tag mask 3 countTagged
    simp only [Bool.and_true]
    exact ⟨_, takes_awaits rfl ha hact rfl rfl, rfl⟩

end Sys2Proof.Machine
end

section
/-! The walk over the matching watches: FIND-FIRST and FIND-NEXT (R125, R126). -/

namespace Sys2Proof.Machine

section Walk

variable {s : State} {q : Search}

/-- A step of the walk reports the first live matching slot from the position on and moves the cursor to it (R126). -/
theorem walkStep_reports {i : SlotId} {w : Watch} (hfrom : q.position.next ≤ i.val) (hw : s.watchAt i = some w)
    (hmatch : w.tagMatch q.tag q.mask = true)
    (hfirst : ∀ (j : SlotId) (x : Watch), q.position.next ≤ j.val → j < i → s.watchAt j = some x →
      x.tagMatch q.tag q.mask = false) :
    walkStep q s =
      ({ s with port := { s.port with cursor := some { q with position := .reported i } } },
        { outcome := .ok
          data := wordBytes (s.handleAt i) ++ wordBytes (w.settings.owner.setWidth 16) ++ [watchStateByte w.state] }) := by
  unfold walkStep
  rw [find_lowest (i := i)]
  · simp only [hw, List.append_assoc]
  · simp only [s.selects_some hw, hmatch, hfrom, decide_true, Bool.and_self]
  · intro j hj
    by_cases hn : q.position.next ≤ j.val
    · rw [State.selects_eq_false fun x hx => hfirst j x hn hj hx, Bool.and_false]
    · rw [decide_eq_false hn, Bool.false_and]

/-- A step of the walk with no live matching slot from the position on answers EMPTY and ends the walk (R126). -/
theorem walkStep_ends
    (hnone : ∀ (j : SlotId) (x : Watch), q.position.next ≤ j.val → s.watchAt j = some x → x.tagMatch q.tag q.mask = false) :
    walkStep q s =
      ({ s with port := { s.port with cursor := some { q with position := .ended } } }, noWatchAnswer .empty) := by
  unfold walkStep
  rw [List.find?_eq_none.mpr]
  intro j _
  by_cases hn : q.position.next ≤ j.val
  · rw [State.selects_eq_false fun x hx => hnone j x hn hx, Bool.and_false]
    exact Bool.false_ne_true
  · rw [decide_eq_false hn, Bool.false_and]
    exact Bool.false_ne_true

/-- FIND-FIRST takes the first step of a new walk (R125). -/
theorem findFirst_setWidth (tag mask : BitVec 11) :
    findFirst (tag.setWidth 16) (mask.setWidth 16) s = walkStep { tag := tag, mask := mask, position := .beforeFirst } s := by
  simp only [findFirst, tagOf_setWidth]

/-- FIND-FIRST with a tag or a mask above 2047 begins no walk (R125). -/
theorem findFirst_refuses {tag mask : Word} (h : 2047 < tag.toNat ∨ 2047 < mask.toNat) :
    findFirst tag mask s = (s, noWatchAnswer .badArg) := by
  rcases h with h | h
  · simp only [findFirst, tagOf_none h]
  · cases ht : tagOf tag <;> simp only [findFirst, ht, tagOf_none h]

/-- FIND-NEXT takes the next step of the walk that the cursor holds (R126). -/
theorem findNext_walks (h : s.port.cursor = some q) : findNext s = walkStep q s := by
  simp only [findNext, h]

/-- FIND-NEXT with no search does nothing (R126). -/
theorem findNext_noSearch (h : s.port.cursor = none) : findNext s = (s, noWatchAnswer .empty) := by
  simp only [findNext, h]

/-- FIND-FIRST, and FIND-NEXT with a search, are one step of a walk from slot `from_` on (R125, R126). -/
theorem requestAct_walkStep {tag mask : BitVec 11} {c : Instr} {from_ : Nat}
    (h : (c = .findFirst (tag.setWidth 16) (mask.setWidth 16) ∧ from_ = 0) ∨
      (c = .findNext ∧ ∃ pos, s.port.cursor = some { tag := tag, mask := mask, position := pos } ∧
        ((pos = .beforeFirst ∧ from_ = 0) ∨ (∃ i, pos = .reported i ∧ from_ = i.val + 1) ∨ (pos = .ended ∧ from_ = 64)))) :
    ∃ pos : WalkPosition, c.wellFormed = true ∧ pos.next = from_ ∧
      requestAct c s = walkStep { tag := tag, mask := mask, position := pos } s := by
  rcases h with ⟨rfl, rfl⟩ | ⟨rfl, pos, hcursor, hpos⟩
  · exact ⟨.beforeFirst, rfl, rfl, findFirst_setWidth tag mask⟩
  · refine ⟨pos, rfl, ?_, findNext_walks hcursor⟩
    rcases hpos with ⟨rfl, rfl⟩ | ⟨i, rfl, rfl⟩ | ⟨rfl, rfl⟩ <;> rfl

end Walk

/-- Settles O46: both requests are one step of a walk (`requestAct_walkStep`), which reports a watch or ends
(`walkStep_reports`, `walkStep_ends`); the last two clauses take no step. -/
theorem walkReportsNextMatch : Obligations.WalkReportsNextMatch := by
  unfold Obligations.WalkReportsNextMatch
  refine ⟨fun s tag mask c from_ hc ha => ?_, fun s hcursor ha => ?_, fun s tag mask hbad ha => ?_⟩
  · obtain ⟨pos, hwf, rfl, hact⟩ := requestAct_walkStep hc
    constructor
    · intro i w hfrom hw hmatch hfirst
      exact ⟨_, answered_awaits hwf ha (hact.trans (walkStep_reports hfrom hw hmatch hfirst)), rfl, rfl, rfl⟩
    · intro hnone
      exact ⟨_, answered_awaits hwf ha (hact.trans (walkStep_ends hnone)), rfl, rfl, rfl⟩
  · exact ⟨_, takes_awaits rfl ha (findNext_noSearch hcursor) rfl rfl, rfl⟩
  · exact ⟨_, takes_awaits rfl ha (findFirst_refuses hbad) rfl rfl, rfl⟩

end Sys2Proof.Machine
end

section
/-! The requests that report a channel entry: CHANNEL-GET and CHANNEL-READ (R137, R141). -/

namespace Sys2Proof.Machine

/-! ## The edge input of a channel -/

@[simp] theorem edgeInputOf_edgeChannel (e : EdgeInput) : edgeInputOf (edgeChannel e) = some e := by cases e <;> rfl

@[simp] theorem channelKind_edgeChannel (e : EdgeInput) : channelKind (edgeChannel e) = .edge := by cases e <;> rfl

/-- A channel that has an edge input is the channel of that input (R130). -/
theorem edgeChannel_of_edgeInputOf {k : ChannelId} {e : EdgeInput} (h : edgeInputOf k = some e) : edgeChannel e = k := by
  unfold edgeInputOf at h
  split_ifs at h with h12 h13 <;> cases h
  · exact Fin.ext h12.symm
  · exact Fin.ext h13.symm

/-- A channel of another kind than EDGE has no edge input (R130). -/
theorem edgeInputOf_none {k : ChannelId} (h : channelKind k ≠ .edge) : edgeInputOf k = none := by
  refine Option.eq_none_iff_forall_ne_some.mpr fun e he => h ?_
  rw [← edgeChannel_of_edgeInputOf he, channelKind_edgeChannel]

/-! ## CHANNEL-GET and CHANNEL-READ -/

section ChannelReports

variable {ch : Byte} {k : ChannelId} {s : State}

/-- The four edge bytes of a channel that is not an EDGE channel are 0 (R137). -/
theorem State.channelBytes_notEdge (h : channelKind k ≠ .edge) :
    s.channelBytes k = [channelKindByte (channelKind k), flagByte s.channels[k].enabled, 0#8, 0#8, 0#8, 0#8] := by
  simp only [State.channelBytes, edgeInputOf_none h, List.cons_append, List.nil_append]

/-- An EDGE channel reports the settings of its edge input (R137). -/
theorem State.channelBytes_edge (e : EdgeInput) :
    s.channelBytes (edgeChannel e) =
      [1#8, flagByte s.channels[edgeChannel e].enabled, edgeModeByte (s.edgeSettings.get e).mode,
        polarityByte (s.edgeSettings.get e).polarity, measureRateByte (s.edgeSettings.get e).rate,
        (s.edgeSettings.get e).gate] := by
  simp only [State.channelBytes, edgeInputOf_edgeChannel, channelKind_edgeChannel, channelKindByte, List.cons_append,
    List.nil_append]

theorem channelGet_reports (h : ch.toNat = k.val) : channelGet ch s = (s, { outcome := .ok, data := s.channelBytes k }) := by
  simp only [channelGet, channelOf_some h]

/-- CHANNEL-GET is answered with the bytes of the entry; `data` is the list that the kind of the channel makes of them (R137). -/
theorem channelGet_takes {data : List Byte} (ha : s.port.awaits (Instr.channelGet ch).requestBytes = true)
    (h : ch.toNat = k.val) (hdata : s.channelBytes k = data) :
    Takes (.channelGet ch) s
      (s.answer (Instr.channelGet ch).requestBytes { outcome := .ok, data := s.channelBytes k }) .ok data := by
  subst hdata
  exact takes_awaits rfl ha (channelGet_reports h) rfl rfl

theorem channelGet_refuses (h : 14 < ch.toNat) : channelGet ch s = (s, zeroAnswer .badArg 6) := by
  simp only [channelGet, channelOf_none h]

/-- CHANNEL-READ reports the entry as it stood and clears its fresh flag (R141). -/
theorem channelRead_reports (h : ch.toNat = k.val) :
    channelRead ch s =
      (s.setEntry k { s.channels[k] with fresh := false },
        { outcome := .ok
          data := wordBytes s.channels[k].latest ++
            [s.channels[k].sequence, channelFlags s.channels[k].fresh s.channels[k].faultMark] }) := by
  simp only [channelRead, channelOf_some h]

theorem channelRead_refuses (h : 14 < ch.toNat) : channelRead ch s = (s, zeroAnswer .badArg 4) := by
  simp only [channelRead, channelOf_none h]

end ChannelReports

/-- Settles O48, by the two outcomes of each request (`channelGet_refuses`, `channelRead_refuses`, `channelGet_takes`,
`channelRead_reports`), the bytes of both sorts of channel (`State.channelBytes_notEdge`, `State.channelBytes_edge`) and the one
entry that is written (`State.channels_setEntry`). -/
theorem channelGetAndReadReport : Obligations.ChannelGetAndReadReport := by
  unfold Obligations.ChannelGetAndReadReport
  refine ⟨fun s ch hbad => ⟨fun ha => ?_, fun ha => ?_⟩, fun s ch k hk => ⟨fun ha => ?_, fun ha => ?_⟩⟩
  · exact ⟨_, takes_awaits rfl ha (channelGet_refuses hbad) rfl rfl, rfl⟩
  · exact ⟨_, takes_awaits rfl ha (channelRead_refuses hbad) rfl rfl, rfl⟩
  · refine ⟨s.answer _ { outcome := .ok, data := s.channelBytes k }, rfl,
      fun hkind => channelGet_takes ha hk (State.channelBytes_notEdge hkind), fun e he => ?_⟩
    subst he
    exact channelGet_takes ha hk (State.channelBytes_edge e)
  · exact ⟨_, takes_awaits rfl ha (channelRead_reports hk) rfl rfl, rfl, (s.channels_setEntry k k _).trans (if_pos rfl),
      fun d hd => (s.channels_setEntry k d _).trans (if_neg hd)⟩

end Sys2Proof.Machine
end

section
/-! PLAN-SET and PLAN-GET (R146 to R148). -/

namespace Sys2Proof.Machine

/-! ## The codes of the arguments -/

theorem planModeOf_none {n : Nat} (h : 3 < n) : planModeOf n = none := by
  unfold planModeOf
  split <;> first | omega | rfl

theorem triggerOf_none {n : Nat} (h : 1 < n) : triggerOf n = none := by
  unfold triggerOf
  split <;> first | omega | rfl

theorem resolutionOf_none {n : Nat} (h : 1 < n) : resolutionOf n = none := by
  unfold resolutionOf
  split <;> first | omega | rfl

section PlanSet

variable {m c tr r : Byte} {ms ps : Word} {p : SweepPlan} {s : State}

/-- The arguments of PLAN-SET make a plan exactly when each of them reads as the plan's field (R146, check 1). -/
theorem planOf_eq_some_iff :
    planOf m c ms ps tr r = some p ↔
      planModeOf m.toNat = some p.mode ∧ channelOf c.toNat = some p.single ∧ channelSetOf ms = some p.members ∧
        channelSetOf ps = some p.priorities ∧ triggerOf tr.toNat = some p.trigger ∧
        resolutionOf r.toNat = some p.resolution ∧ p.accepted = true := by
  rcases p with ⟨mode, single, members, priorities, trigger, resolution, accepted⟩
  unfold planOf
  split
  · next hm hc hms hps =>
    split
    · next ht hr => simp [hm, hc, hms, hps, ht, hr, eq_comm]
    · next hno => simpa using fun _ _ _ _ ht hr => absurd hr (hno _ _ ht)
  · next hno => simpa using fun hm hc hms hps => absurd hps (hno _ _ _ _ hm hc hms)

/-- The codes of an accepted plan's fields make that plan. -/
theorem planOf_codes (hc : c.toNat = p.single.val) (hp : p.accepted = true) :
    planOf (planModeByte p.mode) c (p.members.setWidth 16) (p.priorities.setWidth 16) (triggerByte p.trigger)
      (resolutionByte p.resolution) = some p :=
  planOf_eq_some_iff.mpr ⟨planModeOf_planModeByte _, channelOf_some hc, channelSetOf_setWidth _, channelSetOf_setWidth _,
    triggerOf_triggerByte _, resolutionOf_resolutionByte _, hp⟩

/-- An argument outside its codes makes no plan (R146, check 1). -/
theorem planOf_none
    (h : 3 < m.toNat ∨ 14 < c.toNat ∨ 32768 ≤ ms.toNat ∨ 32768 ≤ ps.toNat ∨ 1 < tr.toNat ∨ 1 < r.toNat) :
    planOf m c ms ps tr r = none := by
  refine Option.eq_none_iff_forall_ne_some.mpr fun p hp => ?_
  obtain ⟨hmode, hsingle, hmembers, hpriorities, htrigger, hresolution, -⟩ := planOf_eq_some_iff.mp hp
  rcases h with h | h | h | h | h | h
  · exact absurd hmode (by simp [planModeOf_none h])
  · exact absurd hsingle (by simp [channelOf_none h])
  · exact absurd hmembers (by simp [channelSetOf_none h])
  · exact absurd hpriorities (by simp [channelSetOf_none h])
  · exact absurd htrigger (by simp [triggerOf_none h])
  · exact absurd hresolution (by simp [resolutionOf_none h])

/-! ## The three checks in order -/

theorem planSet_badCode (h : planOf m c ms ps tr r = none) : planSet m c ms ps tr r s = (s, zeroAnswer .badArg 1) := by
  simp only [planSet, h]

theorem planSet_wrongMode (h : planOf m c ms ps tr r = some p) (hmode : s.mode ≠ .config) :
    planSet m c ms ps tr r s = (s, zeroAnswer .wrongMode 1) := by
  simp only [planSet, h, if_pos hmode]

theorem planSet_notAdmitted (h : planOf m c ms ps tr r = some p) (hmode : s.mode = .config) (hp : s.admits p ≠ true) :
    planSet m c ms ps tr r s = (s, zeroAnswer .badArg 1) := by
  simp only [planSet, h, if_neg (not_not.mpr hmode), if_neg hp]

/-- A PLAN-SET that passes every check writes the whole plan and reports the length of its cycle (R147). -/
theorem planSet_accepts (h : planOf m c ms ps tr r = some p) (hmode : s.mode = .config) (hp : s.admits p = true) :
    planSet m c ms ps tr r s =
      ({ s with plan := p, position := 0 }, { outcome := .ok, data := [countByte p.cycle.length] }) := by
  simp only [planSet, h, if_neg (not_not.mpr hmode), if_pos hp]

end PlanSet

/-- Settles O50: PLAN-SET by the check that fails first (`planSet_badCode`, `planSet_wrongMode`, `planSet_notAdmitted`) or by
`planSet_accepts`, with check 3 spelled out by `State.admits_iff`; PLAN-GET's action is its definition. -/
theorem planRequestsWriteAndReport : Obligations.PlanRequestsWriteAndReport := by
  unfold Obligations.PlanRequestsWriteAndReport
  refine ⟨fun s m c ms ps tr r => ?_, fun s ha => ⟨_, takes_awaits rfl ha rfl rfl rfl, rfl⟩⟩
  intro i converts all fits ha
  have hadmits (p : SweepPlan) : s.admits p = true ↔ fits p := by
    have hchecks := s.admits_iff p
    simp only [State.convertible_iff] at hchecks
    exact hchecks
  constructor
  · intro hbad
    exact ⟨_, takes_awaits rfl ha (planSet_badCode (planOf_none hbad)) rfl rfl, rfl⟩
  · rintro p rfl hc rfl rfl rfl rfl hp
    have hplan := planOf_codes hc hp
    refine ⟨fun hmode => ?_, fun hmode hfits => ?_, fun hmode hfits => ?_⟩
    · exact ⟨_, takes_awaits rfl ha (planSet_wrongMode hplan hmode) rfl rfl, rfl⟩
    · have hno : s.admits p ≠ true := fun h => hfits ((hadmits p).mp h)
      exact ⟨_, takes_awaits rfl ha (planSet_notAdmitted hplan hmode hno) rfl rfl, rfl⟩
    · exact ⟨_, takes_awaits rfl ha (planSet_accepts hplan hmode ((hadmits p).mpr hfits)) rfl rfl, rfl⟩

end Sys2Proof.Machine
end

section
/-! SUMMARY in the layout of R199 (R187). -/

namespace Sys2Proof.Machine

section SummaryFields

/-- The requested mode, none standing as 3 (R177). -/
theorem requestedByte_eq (p : Option PendingTarget) :
    requestedByte p = match p with | none => 3#8 | some .config => 0#8 | some .hold => 2#8 := by
  cases p with
  | none => rfl
  | some target => cases target <;> rfl

variable (s : State)

/-- The head's handle in two bytes, an empty list standing as "no handle" (R71). -/
theorem State.wordBytes_headHandle :
    wordBytes s.headHandle = match s.pendingList with | [] => [0xFF#8, 0xFF#8] | i :: _ => wordBytes (s.handleAt i) := by
  unfold State.headHandle
  cases s.pendingList with
  | nil => exact show wordBytes Config.noHandle = [0xFF#8, 0xFF#8] by decide
  | cons i rest => rfl

/-- The live watch count is the number of slots that hold a watch (R2). -/
theorem State.liveCount_eq : s.liveCount = ((List.finRange 64).filter fun i => (s.watchAt i).isSome).length := by
  have hlive : s.selects (fun _ _ => true) = fun i => (s.watchAt i).isSome := by
    funext i
    cases hw : s.watchAt i with
    | none => exact s.selects_none hw
    | some w => exact s.selects_some hw
  simp only [State.liveCount, State.countWatches, hlive]

end SummaryFields

/-- Settles O59: the action is the report and the cleared flag by definition; the requested mode, the head's handle and the
live watch count have lemmas of their own (`requestedByte_eq`, `State.wordBytes_headHandle`, `State.liveCount_eq`), and the other
fields stand in the report as they are. -/
theorem summaryReportsAndClearsOverrun : Obligations.SummaryReportsAndClearsOverrun := by
  unfold Obligations.SummaryReportsAndClearsOverrun
  intro s ha
  have hact : requestAct .summary s = ({ s with triggerOverrun := false }, { outcome := .ok, data := s.summaryBytes }) := rfl
  have htakes := takes_awaits rfl ha hact rfl rfl
  simp only [State.summaryBytes, requestedByte_eq, s.wordBytes_headHandle, s.liveCount_eq] at htakes
  exact ⟨_, htakes, rfl⟩

end Sys2Proof.Machine
end

section
/-! A code that the request table does not list: its answer, and the rest of its frame (R193). -/

namespace Sys2Proof.Machine

section UnknownCode

variable {s : State} {code : Byte}

/-- A frame with no byte received awaits every request (R189). -/
theorem Port.awaits_first {p : Port} {request : List Byte} (hphase : p.phase = .receiving) (hnone : p.received = [])
    (hne : request ≠ []) : p.awaits request = true :=
  (p.awaits_iff request).mpr ⟨hphase, request, hne, by rw [hnone, List.nil_append]⟩

/-- Once the frame is not RECEIVING, a byte on MOSI is ignored (R191). -/
theorem requestByteArrival_notReceiving (h : s.port.phase ≠ .receiving) (b : Byte) :
    exec (.requestByteArrival b) s = .next s := if_neg h

/-- The last result byte of a request other than NOTICE-TAKE leaves the frame TRAILING, with 0 on MISO (R191). -/
theorem lastResultByteEnd_trailing (hphase : s.port.phase = .answering)
    (htake : s.port.received ≠ Instr.noticeTake.requestBytes) :
    exec .lastResultByteEnd s = .next { s with port := { s.port with phase := .trailing, miso := .zero } } :=
  if_pos ⟨hphase, htake⟩

/-- NOTICE-TAKE's code is listed, so no unknown code has its request bytes (R196). -/
theorem unknownCode_ne_noticeTake (h : requestRow code = none) :
    (Instr.unknownCode code).requestBytes ≠ Instr.noticeTake.requestBytes := by
  intro heq
  have hlisted : requestRow 0x42#8 ≠ none := by decide
  obtain ⟨rfl, -⟩ := List.cons.inj heq
  exact hlisted h

/-- An unknown code as the first byte of a frame is taken and answered UNKNOWN with no data (R193). -/
theorem unknownCode_takes (h : requestRow code = none) (hphase : s.port.phase = .receiving) (hnone : s.port.received = []) :
    Takes (.unknownCode code) s
      (s.answer (Instr.unknownCode code).requestBytes { outcome := .unknown, data := [] }) .unknown [] :=
  takes_awaits (Option.isNone_iff_eq_none.mpr h) (Port.awaits_first hphase hnone (List.cons_ne_nil _ _)) rfl rfl rfl

end UnknownCode

/-- Settles O6: the code is taken with its answer (`unknownCode_takes`); the frame is then ANSWERING, so it ignores bytes
(`requestByteArrival_notReceiving`) and requests (`exec_notReceiving`), and the outcome byte ends it as it ends every result but
NOTICE-TAKE's (`lastResultByteEnd_trailing`, `unknownCode_ne_noticeTake`). -/
theorem unknownCodeAnswersUnknown : Obligations.UnknownCodeAnswersUnknown := by
  unfold Obligations.UnknownCodeAnswersUnknown
  refine ⟨fun s code hunlisted hphase hnone => ?_, by decide, by decide, rfl⟩
  have htakes := unknownCode_takes hunlisted hphase hnone
  have hnotReceiving := htakes.answering.trans_ne (show Phase.answering ≠ .receiving by decide)
  have hnotTake := htakes.received.trans_ne (unknownCode_ne_noticeTake hunlisted)
  exact ⟨_, htakes, rfl, requestByteArrival_notReceiving hnotReceiving, fun c hc => exec_notReceiving hc hnotReceiving,
    lastResultByteEnd_trailing htakes.answering hnotTake⟩

end Sys2Proof.Machine
end

section
/-! All that a command can do to the device, said once: the effect of a request's own action, the events that make up a command
of the measuring blocks, and what becomes of a state under any command at all. -/

namespace Sys2Proof.Machine

/-! ## Events -/

/-- What an event of the edge timing unit may make of one record: an edge channel that is not measured stays so, and the record
keeps what R163 to R173 say of count, gate and due sample in edge mode `m`. -/
structure EdgeRecord.Moves (m : EdgeMode) (r q : EdgeRecord) : Prop where
  stopped : r = .stopped → q = .stopped
  counting : (r.state ≠ .measuring → r.count = 0#16 ∧ r.gateCountdown = 0#8 ∧ r.windowDue = none) →
    (m ≠ .count → r.gateCountdown = 0#8 ∧ r.windowDue = none) →
    (q.state ≠ .measuring → q.count = 0#16 ∧ q.gateCountdown = 0#8 ∧ q.windowDue = none) ∧
    (m ≠ .count → q.gateCountdown = 0#8 ∧ q.windowDue = none)

/-- A change of mode once no window sample is due (R77, R164, R173, R180 to R183). -/
def State.intoMode (m : Mode) (s : State) : State :=
  { s with
    mode := m
    requested := none
    engine := .idle
    position := 0
    edges := s.changedEdges m
    timeBase := s.timeBase.changeMode s.mode m }

theorem State.enterMode_eq (m : Mode) (s : State) : s.enterMode m = s.deliverWindows.intoMode m := rfl

/-- One event at one block of the device, of which the events of the measuring blocks, of time and of mode control are made. -/
inductive Event (s : State) : State → Prop
  | arrival (c : ChannelId) (v : Word) (faulted : Bool) (h : sampleable c v = true) : Event s (s.arrival c v faulted)
  | tick : Event s (s.judge fun _ w => w.tick)
  | lapse (i : SlotId) : Event s
      (s.judge fun j w => if j = i ∧ w.counting ∧ w.leaseRemaining.toNat ≤ 1 then w.expire else .unchanged w)
  | reload (h : s.timeBase.countdown.isSome = true) : Event s { s with timeBase := s.timeBase.reload }
  | edge (e : EdgeInput) (r : EdgeRecord) (h : (s.edges.get e).Moves (s.edgeSettings.get e).mode r) : Event s (s.setEdge e r)
  | tickEdges : Event s s.tickEdges
  | intoMode (m : Mode) : Event s (s.intoMode m)
  | completed (h : s.engine = .converting) :
      Event s { s with engine := s.engineNext.1, position := s.engineNext.2 }
  | settled (h : s.reference = .settling) (hw : s.engine ≠ .waitRef) : Event s { s with reference := .ready }
  | settledRun (h : s.reference = .settling) (hw : s.engine = .waitRef) :
      Event s { s with reference := .ready, engine := .converting, position := 0 }
  | triggered (h : s.engine = .armed) : Event s { s with engine := s.runState, position := 0 }
  | overrun : Event s { s with triggerOverrun := true }
  | released : Event s { s with rstnLow := false }

/-- Those of them that make up the events of the measuring blocks: arrivals, and what they do to edge records and the engine. -/
inductive Measurement (s : State) : State → Prop
  | arrival (c : ChannelId) (v : Word) (faulted : Bool) (h : sampleable c v = true) : Measurement s (s.arrival c v faulted)
  | edge (e : EdgeInput) (r : EdgeRecord) (h : (s.edges.get e).Moves (s.edgeSettings.get e).mode r) : Measurement s (s.setEdge e r)
  | completed (h : s.engine = .converting) :
      Measurement s { s with engine := s.engineNext.1, position := s.engineNext.2 }

/-- One event after another. -/
abbrev Events : State → State → Prop := Relation.ReflTransGen Event

/-- One event of the measuring blocks after another. -/
abbrev Measured : State → State → Prop := Relation.ReflTransGen Measurement

section Events

variable {s t : State}

/-- What every event keeps, a run of events keeps. -/
theorem Events.induction {P : State → Prop} (h : Events s t) (hs : P s) (step : ∀ u v, Event u v → P u → P v) : P t := by
  induction h with
  | refl => exact hs
  | tail _ he ih => exact step _ _ he ih

theorem EdgeRecord.Moves.windowTaken {m : EdgeMode} {r : EdgeRecord} : r.Moves m { r with windowDue := none } where
  stopped h := by subst h; rfl
  counting hc hm := ⟨fun h => ⟨(hc h).1, (hc h).2.1, rfl⟩, fun h => ⟨(hm h).1, rfl⟩⟩

theorem EdgeRecord.Moves.waitAgain {m : EdgeMode} {r : EdgeRecord} (hr : r.state = .measuring) (h : m ≠ .count) :
    r.Moves m r.waitAgain where
  stopped hs := by subst hs; cases hr
  counting _ hm := ⟨fun _ => ⟨rfl, hm h⟩, hm⟩

theorem EdgeRecord.Moves.startCount {m : EdgeMode} {r : EdgeRecord} (hr : r.state ≠ .idle) : r.Moves m r.startCount where
  stopped hs := by subst hs; exact absurd rfl hr
  counting _ hm := ⟨fun h => absurd rfl h, hm⟩

theorem EdgeRecord.Moves.countEdge {m : EdgeMode} {r : EdgeRecord} (hr : r.state = .measuring) : r.Moves m r.countEdge where
  stopped hs := by subst hs; cases hr
  counting _ hm := ⟨fun h => absurd hr h, hm⟩

theorem EdgeRecord.Moves.tick (q : EdgeSettings) (r : EdgeRecord) : r.Moves q.mode (r.tick q) := by
  unfold EdgeRecord.tick
  by_cases hq : q.mode = .count
  · rw [if_pos hq]
    refine ⟨fun h => by subst h; rfl, fun hc _ => ⟨?_, fun h => absurd hq h⟩⟩
    split
    · exact hc
    · exact fun h => absurd rfl h
    · next hr =>
      split_ifs
      · exact fun h => absurd hr h
      · exact fun h => absurd hr h
  · rw [if_neg hq]
    exact ⟨id, fun hc hm => ⟨hc, hm⟩⟩

theorem sampleable_edge (e : EdgeInput) (v : Word) : sampleable (edgeChannel e) v = true := by
  cases e <;> rfl

theorem Measured.setEdge_arrival {e : EdgeInput} {r : EdgeRecord} (h : (s.edges.get e).Moves (s.edgeSettings.get e).mode r)
    (v : Word) (faulted : Bool) : Measured s ((s.setEdge e r).arrival (edgeChannel e) v faulted) :=
  .tail (.single (.edge e r h)) (.arrival _ v faulted (sampleable_edge e v))

theorem Measured.deliverWindow (s : State) (e : EdgeInput) : Measured s (s.deliverWindow e) := by
  unfold State.deliverWindow
  split
  · exact .refl
  · exact .setEdge_arrival .windowTaken _ _

theorem Measured.deliverWindows (s : State) : Measured s s.deliverWindows :=
  (Measured.deliverWindow s .edg0).trans (Measured.deliverWindow _ .edg1)

theorem Measured.rangeEnd (s : State) {m : EdgeMode} (hm : m ≠ .count) (e : EdgeInput) : Measured s (s.rangeEnd m e) := by
  unfold State.rangeEnd
  dsimp only
  split_ifs with h
  · exact .setEdge_arrival (.waitAgain h.2 (h.1 ▸ hm)) _ _
  · exact .refl

theorem Measured.startMeasurement {e : EdgeInput} (h : (s.edges.get e).state ≠ .idle) : Measured s (s.startMeasurement e) :=
  .single (.edge e _ (.startCount h))

/-- The range of a measurement that runs out leaves the channel WAITING (R165). -/
theorem State.rangeEnd_state {m : EdgeMode} {e : EdgeInput} (hm : (s.edgeSettings.get e).mode = m)
    (hr : (s.edges.get e).state = .measuring) : ((s.rangeEnd m e).edges.get e).state = .waiting := by
  unfold State.rangeEnd
  rw [if_pos ⟨hm, hr⟩]
  cases e <;> rfl

theorem Measured.activeEdge (s : State) (e : EdgeInput) (elapsed : Nat) : Measured s (s.activeEdge e elapsed) := by
  unfold State.activeEdge
  dsimp only
  split
  · exact .refl
  · next h => exact .startMeasurement (by simp [h])
  · exact .refl
  · next h => exact .startMeasurement (by simp [h])
  · next hm hr =>
    split_ifs
    · exact (Measured.rangeEnd s (m := .period) (by decide) e).trans (Measured.startMeasurement (by simp [State.rangeEnd_state hm hr]))
    · exact .setEdge_arrival (.startCount (by simp [hr])) _ _
  · exact .refl
  · next hr => exact .single (.edge e _ (.countEdge hr))

theorem Measured.oppositeEdge (s : State) (e : EdgeInput) (elapsed : Nat) : Measured s (s.oppositeEdge e elapsed) := by
  unfold State.oppositeEdge
  dsimp only
  split_ifs with h
  · exact .rangeEnd s (by decide) e
  · exact .setEdge_arrival (.waitAgain h.2 (by simp [h.1])) _ _
  · exact .refl

theorem Measured.of_next {u : State} (h : (Host.Outcome.next u : StepOutcome) = .next t) (hu : Measured s u) : Measured s t := by
  cases h
  exact hu

theorem Measured.conversionCompletion {result : BitVec 12} (h : exec (.conversionCompletion result) s = .next t) :
    Measured s t := by
  change execConversionCompletion result s = _ at h
  unfold execConversionCompletion at h
  dsimp only at h
  split_ifs at h with hc
  · split at h
    · split_ifs at h with hv
      · exact .of_next h ((Relation.ReflTransGen.single (Measurement.completed hc)).tail (.arrival _ _ false hv))
      · exact .of_next h .refl
    · exact .of_next h .refl
  · exact .of_next h .refl

theorem Measurement.event (h : Measurement s t) : Event s t := by
  cases h with
  | arrival c v faulted h => exact .arrival c v faulted h
  | edge e r h => exact .edge e r h
  | completed h => exact .completed h

theorem Measured.events (h : Measured s t) : Events s t := h.lift id fun _ _ => Measurement.event

theorem Events.enterMode (s : State) (m : Mode) : Events s (s.enterMode m) :=
  (Measured.deliverWindows s).events.tail (.intoMode m)

theorem Events.of_next {u : State} (h : (Host.Outcome.next u : StepOutcome) = .next t) (hu : Events s u) : Events s t := by
  cases h
  exact hu

theorem Events.settleEvent (h : exec .settleEvent s = .next t) : Events s t := by
  change execSettleEvent s = _ at h
  unfold execSettleEvent at h
  split_ifs at h with hr he
  · exact .of_next h (.single (.settledRun hr he))
  · exact .of_next h (.single (.settled hr he))
  · exact .of_next h .refl

theorem Events.trigFallingEdge (h : exec .trigFallingEdge s = .next t) : Events s t := by
  change execTrigFallingEdge s = _ at h
  unfold execTrigFallingEdge at h
  split_ifs at h with hh he
  · exact .of_next h .refl
  · exact .of_next h (.single (.triggered he))
  · exact .of_next h (.single .overrun)

theorem Events.intervalExpiry (h : exec .intervalExpiry s = .next t) : Events s t := by
  change execIntervalExpiry s = _ at h
  unfold execIntervalExpiry at h
  dsimp only at h
  split_ifs at h with hc
  · have reloaded := (Measured.deliverWindows s).events.tail (.reload (by rw [State.deliverWindows_timeBase]; exact hc))
    exact .of_next h ((reloaded.tail .tick).tail .tickEdges)
  · exact .of_next h .refl

theorem Events.leaseExpiry {i : SlotId} (h : exec (.leaseExpiry i) s = .next t) : Events s t := by
  change execLeaseExpiry i s = _ at h
  unfold execLeaseExpiry at h
  split_ifs at h
  · exact .of_next h (.single (.lapse i))
  · exact .of_next h .refl

theorem Events.modeChangeCarriedOut (h : exec .modeChangeCarriedOut s = .next t) : Events s t := by
  change execModeChangeCarriedOut s = _ at h
  unfold execModeChangeCarriedOut at h
  split at h
  · exact .of_next h .refl
  · split_ifs at h
    · exact .of_next h .refl
    · exact .of_next h (.enterMode s _)

end Events

/-! ## The effects of requests -/

/-- What RENEW, SUSPEND and RESUME, alone or by tag, may make of a watch (R85, R108, R109, R117 to R120). -/
inductive Handled (w : Watch) : Watch → Prop
  | kept : Handled w w
  | reloaded (h : w.state ≠ .expired) : Handled w w.reload
  | suspended (h : w.state ≠ .expired) : Handled w w.suspended
  | resumed (h : w.state ≠ .expired) : Handled w w.resumed

/-- What the action of request `c` may do to the device, apart from a change of mode that is carried out at once. -/
inductive Effect (c : Instr) (s : State) : State → Prop
  | composed (b : ComposeBuffer)
      (h : (1 ≤ s.compose.dwell ∧ s.compose.dwell ≤ 64) ∧ s.compose.step ≠ 0#16 →
        (1 ≤ b.dwell ∧ b.dwell ≤ 64) ∧ b.step ≠ 0#16) : Effect c s { s with compose := b }
  | loaded (i : SlotId) (w : Watch) (h : s.watchAt i = some w) : Effect c s { s with compose := w.settings.toBuffer }
  | handled (f : SlotId → Watch → Watch) (h : ∀ i w, s.watchAt i = some w → Handled w (f i w)) : Effect c s (s.mapWatches f)
  | amended (i : SlotId) (w : Watch) (hw : s.watchAt i = some w) (he : w.state ≠ .expired) (h : s.failingField = none) :
      Effect c s (s.setWatch i (w.amended s.compose.toSettings))
  | created (i : SlotId) (hi : s.watchAt i = none) (h : s.failingField = none) :
      Effect c s (s.fillSlot i s.compose.newWatch)
  | freed (p : SlotId → Watch → Bool) : Effect c s (s.freeWatches p)
  | tableReset : Effect c s (resetTable s).1
  | searched (q : Option Search) : Effect c s { s with port := { s.port with cursor := q } }
  | claimed (h : c = .noticeTake) : Effect c s { s with port := { s.port with claim := s.newClaim } }
  | notified (n : NotifySetting) : Effect c s { s with notify := n }
  | configured (k : ChannelId) (on : Bool) (edge : Option (EdgeInput × EdgeSettings)) (hm : s.mode = .config)
      (hn : s.takesAway k on edge = false) : Effect c s (s.configure k on edge)
  | read (k : ChannelId) : Effect c s (s.setEntry k { s.channels[k] with fresh := false })
  | planned (p : SweepPlan) (hm : s.mode = .config) (hp : s.admits p = true) :
      Effect c s { s with plan := p, position := 0 }
  | started (hm : s.mode = .run) (hr : s.requested = none) (hp : s.plan.accepted = true) (ho : s.reference ≠ .off) :
      Effect c s { s with engine := s.startState, position := 0 }
  | stopped (hr : s.requested = none) : Effect c s { s with engine := .idle, position := 0 }
  | switchedOn : Effect c s { s with reference := switchedOn s.reference }
  | switchedOff (h : s.engine = .idle) : Effect c s { s with reference := .off }
  | requested (p : PendingTarget) (hm : s.mode = .run) (he : s.engine = .converting) : Effect c s { s with requested := some p }
  | summarized : Effect c s { s with triggerOverrun := false }
  | timed (p : Word) : Effect c s { s with timeBase := { s.timeBase with periodSetting := p } }

/-- The outcomes of requests that may act (R195). -/
def OutcomeCode.Acts (o : OutcomeCode) : Prop := o = .ok ∨ o = .accepted ∨ o = .empty

/-- What the action of request `c` answers in `s`: `n` data bytes, and either nothing is changed or the outcome is one that may act
and the change is an effect of a request or a change of mode (R190, R195). -/
structure Served (c : Instr) (n : Nat) (s : State) (r : State × Answer) : Prop where
  length : r.2.data.length = n
  effect : r.1 = s ∨ (r.2.outcome.Acts ∧ (Effect c s r.1 ∨ Events s r.1))

section Served

variable {c : Instr} {n : Nat} {s u : State} {a : Answer}

theorem Served.unchanged (h : a.data.length = n) : Served c n s (s, a) := ⟨h, .inl rfl⟩

theorem Served.zero (o : OutcomeCode) : Served c n s (s, zeroAnswer o n) := .unchanged List.length_replicate

theorem Served.acts (h : a.data.length = n) (ho : a.outcome.Acts) (he : Effect c s u) : Served c n s (u, a) :=
  ⟨h, .inr ⟨ho, .inl he⟩⟩

theorem Served.ok {data : List Byte} (h : data.length = n) (he : Effect c s u) :
    Served c n s (u, { outcome := .ok, data := data }) := .acts h (.inl rfl) he

end Served

/-! ### Each request -/

section Requests

variable (c : Instr) (s : State)

theorem ComposeBuffer.write_ranges {b b' : ComposeBuffer} {field : Byte} {value : Word} (h : b.write field value = some b')
    (hb : (1 ≤ b.dwell ∧ b.dwell ≤ 64) ∧ b.step ≠ 0#16) : (1 ≤ b'.dwell ∧ b'.dwell ≤ 64) ∧ b'.step ≠ 0#16 := by
  unfold ComposeBuffer.write at h
  split at h
  case h_6 => split_ifs at h; cases h; exact hb
  case h_7 => split_ifs at h with hv; cases h; exact ⟨hv, hb.2⟩
  case h_8 => split_ifs at h with hv; cases h; exact ⟨hb.1, hv⟩
  case h_12 => cases h
  case h_4 | h_5 | h_10 => cases h; exact hb
  all_goals obtain ⟨x, -, rfl⟩ := Option.map_eq_some_iff.mp h; exact hb

theorem composeWrite_served (field : Byte) (value : Word) : Served c 3 s (composeWrite field value s) := by
  unfold composeWrite
  split
  · exact .zero _
  · next h => exact .ok rfl (.composed _ (ComposeBuffer.write_ranges h))

theorem composeRead_served (field : Byte) : Served c 3 s (composeRead field s) := by
  unfold composeRead
  split
  · exact .zero _
  · exact .unchanged rfl

theorem load_served (handle : Word) : Served c 1 s (load handle s) := by
  unfold load
  split
  · exact .zero _
  · next h => exact .ok rfl (.loaded _ _ (s.lookup_ok h))

/-- Replacing the watch of a live slot by what a request may make of it. -/
theorem Effect.setWatch {i : SlotId} {w x : Watch} (hw : s.watchAt i = some w) (h : Handled w x) : Effect c s (s.setWatch i x) := by
  refine .handled _ fun j y hy => ?_
  split_ifs with hj
  · subst hj
    rw [hw] at hy
    cases hy
    exact h
  · exact .kept

theorem create_served : Served c 3 s (create s) := by
  unfold create
  split
  · exact .unchanged rfl
  · next hf =>
    split
    · exact .unchanged rfl
    · next hi => exact .ok rfl (.created _ (s.lowestFree_some hi).1 hf)

theorem Watch.not_expired {w : Watch} (h : ¬ w.isExpired = true) : w.state ≠ .expired := by
  simpa [Watch.isExpired] using h

theorem amend_served (handle : Word) : Served c 4 s (amend handle s) := by
  unfold amend
  split
  · exact .zero _
  · next hl =>
    split_ifs with he
    · exact .zero _
    · split
      · exact .unchanged rfl
      · next hf => exact .ok rfl (.amended _ _ (s.lookup_ok hl) (Watch.not_expired he) hf)

theorem retire_served (handle : Word) : Served c 1 s (retire handle s) := by
  unfold retire
  split
  · exact .zero _
  · exact .ok rfl (.freed _)

theorem renew_served (handle : Word) : Served c 2 s (renew handle s) := by
  unfold renew
  split
  · exact .zero _
  · next hl =>
    split_ifs with he
    · exact .zero _
    · exact .ok rfl (.setWatch c s (s.lookup_ok hl) (.reloaded (Watch.not_expired he)))
    · exact .zero _

theorem suspend_served (handle : Word) : Served c 1 s (suspend handle s) := by
  unfold suspend
  split
  · exact .zero _
  · next hl =>
    split_ifs with he
    · exact .zero _
    · exact .ok rfl (.setWatch c s (s.lookup_ok hl) (.suspended (Watch.not_expired he)))
    · exact .unchanged rfl

theorem resume_served (handle : Word) : Served c 1 s (resume handle s) := by
  unfold resume
  split
  · exact .zero _
  · next hl =>
    split_ifs with he
    · exact .zero _
    · exact .unchanged rfl
    · exact .ok rfl (.setWatch c s (s.lookup_ok hl) (.resumed (Watch.not_expired he)))

theorem watchStatus_served (handle : Word) : Served c 13 s (watchStatus handle s) := by
  unfold watchStatus
  split
  · exact .zero _
  · exact .unchanged rfl

theorem tagged_served {n : Nat} (tag mask : Word) {act : BitVec 11 → BitVec 11 → State → State × Answer}
    (h : ∀ t m, Served c n s (act t m s)) : Served c n s (tagged tag mask n act s) := by
  rcases tagged_cases s tag mask n act with ⟨t, m, ht⟩ | ht
  · exact ht ▸ h t m
  · exact ht ▸ .zero _

/-- Handling the watches that a test selects, none of them EXPIRED. -/
theorem Effect.mapSelected {sel : Watch → Bool} {f : Watch → Watch} (h : ∀ w, sel w = true → Handled w (f w)) :
    Effect c s (s.mapWatches fun _ w => if sel w then f w else w) := by
  refine .handled _ fun i w _ => ?_
  split_ifs with hs
  · exact h w hs
  · exact .kept

theorem renewTagged_served (t m : BitVec 11) : Served c 2 s (renewTagged t m s) := by
  refine .ok rfl (.mapSelected c s (sel := fun w => w.tagMatch t m && w.counting) fun w hw => .reloaded ?_)
  rw [Watch.counting_eq] at hw
  simp_all

theorem suspendTagged_served (t m : BitVec 11) : Served c 1 s (suspendTagged t m s) := by
  refine .ok rfl (.mapSelected c s (sel := fun w => w.tagMatch t m && w.inService) fun w hw => .suspended ?_)
  rw [Watch.inService_eq] at hw
  simp_all

theorem resumeTagged_served (t m : BitVec 11) : Served c 1 s (resumeTagged t m s) := by
  refine .ok rfl (.mapSelected c s (sel := fun w => w.tagMatch t m && w.state == .suspended) fun w hw => .resumed ?_)
  simp_all

theorem walkStep_served (q : Search) : Served c 5 s (walkStep q s) := by
  unfold walkStep
  split
  · exact .acts rfl (.inr (.inr rfl)) (.searched _)
  · refine .ok ?_ (.searched _)
    split <;> rfl

theorem findFirst_served (tag mask : Word) : Served c 5 s (findFirst tag mask s) := by
  unfold findFirst
  split
  · exact walkStep_served c s _
  · exact .unchanged rfl

theorem findNext_served : Served c 5 s (findNext s) := by
  unfold findNext
  split
  · exact .unchanged rfl
  · exact walkStep_served c s _

theorem noticeAnswer_length : s.noticeAnswer.data.length = 9 := by
  unfold State.noticeAnswer
  split <;> rfl

theorem noticeAnswer_acts : s.noticeAnswer.outcome.Acts := by
  unfold State.noticeAnswer
  split
  · exact .inr (.inr rfl)
  · exact .inl rfl

theorem notifySet_served (enable threshold : Byte) : Served c 2 s (notifySet enable threshold s) := by
  unfold notifySet
  split
  · exact .ok rfl (.notified _)
  · exact .zero _

theorem channelBytes_length (k : ChannelId) : (s.channelBytes k).length = 6 := by
  unfold State.channelBytes
  split <;> rfl

theorem channelSet_served (channel enabled edgeMode polarity rate gate : Byte) :
    Served c 6 s (channelSet channel enabled edgeMode polarity rate gate s) := by
  unfold channelSet
  split
  · exact .zero _
  · split
    · unfold channelSetChecked
      split_ifs with hm hn
      · exact .zero _
      · exact .zero _
      · exact .ok (channelBytes_length _ _) (.configured _ _ _ (not_not.mp hm) (Bool.eq_false_iff.mpr hn))
    · exact .zero _

theorem channelGet_served (channel : Byte) : Served c 6 s (channelGet channel s) := by
  unfold channelGet
  split
  · exact .zero _
  · exact .unchanged (channelBytes_length s _)

theorem channelRead_served (channel : Byte) : Served c 4 s (channelRead channel s) := by
  unfold channelRead
  split
  · exact .zero _
  · exact .ok rfl (.read _)

theorem planSet_served (mode single : Byte) (members priorities : Word) (trigger resolution : Byte) :
    Served c 1 s (planSet mode single members priorities trigger resolution s) := by
  unfold planSet
  split
  · exact .zero _
  · split_ifs with hm hp
    · exact .zero _
    · exact .ok rfl (.planned _ (not_not.mp hm) hp)
    · exact .zero _

theorem start_served : Served c 1 s (start s) := by
  unfold start
  split_ifs with hm hr he hp ho
  · exact .zero _
  · exact .zero _
  · exact .zero _
  · exact .zero _
  · exact .zero _
  · exact .ok rfl (.started (not_not.mp hm) (Option.not_isSome_iff_eq_none.mp hr) (by simpa using hp) ho)

theorem stop_served : Served c 1 s (stop s) := by
  unfold stop
  split_ifs with hr
  · exact .zero _
  · exact .ok rfl (.stopped (Option.not_isSome_iff_eq_none.mp hr))

theorem refOff_served : Served c 1 s (refOff s) := by
  unfold refOff
  split_ifs with h
  · exact .ok rfl (.switchedOff h)
  · exact .zero _

theorem changeMode_served (target : Mode) : Served c 2 s (changeMode target s) := by
  unfold changeMode
  dsimp only
  split
  · next p hp =>
    split_ifs at hp with h
    exact .acts rfl (.inr (.inl rfl)) (.requested p h.1 h.2)
  · exact ⟨rfl, .inr ⟨.inl rfl, .inr (.enterMode s target)⟩⟩

theorem modeRequest_served (target : Byte) : Served c 2 s (modeRequest target s) := by
  unfold modeRequest
  split
  · exact .zero _
  · split_ifs
    · exact .zero _
    · exact .unchanged rfl
    · exact changeMode_served c s _

theorem timebaseSet_served (period : Word) : Served c 4 s (timebaseSet period s) := by
  unfold timebaseSet
  split_ifs
  · exact .zero _
  · exact .ok rfl (.timed _)

end Requests

/-- How many data bytes the request table gives the request of a command; an unlisted code has none (R193, R196). -/
def dataBytes (c : Instr) : Nat := (c.requestBytes.head?.bind requestRow).elim 0 RequestRow.data

/-- What every request answers and does (R190, R195, R196). -/
theorem requestAct_served {c : Instr} (hw : c.wellFormed = true) (hb : c.requestBytes ≠ []) (s : State) :
    Served c (dataBytes c) s (requestAct c s) := by
  cases c
  case composeClear => exact .ok rfl (.composed _ fun _ => by decide)
  case composeWrite field value => exact composeWrite_served _ s field value
  case composeRead field => exact composeRead_served _ s field
  case load handle => exact load_served _ s handle
  case create => exact create_served _ s
  case amend handle => exact amend_served _ s handle
  case retire handle => exact retire_served _ s handle
  case renew handle => exact renew_served _ s handle
  case suspend handle => exact suspend_served _ s handle
  case resume handle => exact resume_served _ s handle
  case watchStatus handle => exact watchStatus_served _ s handle
  case resetTable => exact .ok rfl .tableReset
  case renewTagged tag mask => exact tagged_served _ s tag mask (renewTagged_served _ s)
  case suspendTagged tag mask => exact tagged_served _ s tag mask (suspendTagged_served _ s)
  case resumeTagged tag mask => exact tagged_served _ s tag mask (resumeTagged_served _ s)
  case retireTagged tag mask => exact tagged_served _ s tag mask (act := retireTagged) fun _ _ => .ok rfl (.freed _)
  case countTagged tag mask => exact tagged_served _ s tag mask (act := countTagged) fun _ _ => .unchanged rfl
  case findFirst tag mask => exact findFirst_served _ s tag mask
  case findNext => exact findNext_served _ s
  case noticePeek => exact .unchanged (noticeAnswer_length s)
  case noticeTake => exact .acts (noticeAnswer_length s) (noticeAnswer_acts s) (.claimed rfl)
  case notifySet enable threshold => exact notifySet_served _ s enable threshold
  case channelSet => exact channelSet_served _ s _ _ _ _ _ _
  case channelGet channel => exact channelGet_served _ s channel
  case channelRead channel => exact channelRead_served _ s channel
  case planSet => exact planSet_served _ s _ _ _ _ _ _
  case planGet => exact .unchanged rfl
  case start => exact start_served _ s
  case stop => exact stop_served _ s
  case refOn => exact .ok rfl .switchedOn
  case refOff => exact refOff_served _ s
  case modeRequest target => exact modeRequest_served _ s target
  case summary => exact .ok rfl .summarized
  case timebaseSet period => exact timebaseSet_served _ s period
  case timebaseGet => exact .unchanged rfl
  case unknownCode code =>
    have hn : requestRow code = none := Option.isNone_iff_eq_none.mp hw
    refine .unchanged ?_
    simp [dataBytes, Instr.requestBytes, hn]
  all_goals exact absurd rfl hb

/-! ## Every command -/

/-- What chip select, a counted request byte and the end of a result make of the port (R189, R191, R194). -/
inductive FrameMove (s : State) : Port → Prop
  | begun (h : s.port.phase = .idle) (hh : s.held = false) :
      FrameMove s { s.port with phase := .receiving, received := [], miso := .summary s.summaryByte }
  | begunHeld (h : s.port.phase = .idle) (hh : s.held = true) :
      FrameMove s { s.port with phase := .held, received := [], miso := .zero }
  | ended : FrameMove s { s.port with phase := .idle, received := [], miso := .released, claim := none }
  | counted (b : Byte) (h : s.port.phase = .receiving)
      (hl : (s.port.received ++ [b]).length < frameLength (s.port.received ++ [b])) :
      FrameMove s { s.port with received := s.port.received ++ [b], miso := .summary s.summaryByte }
  | finished (h : s.port.phase = .answering) (hr : s.port.received ≠ Instr.noticeTake.requestBytes) :
      FrameMove s { s.port with phase := .trailing, miso := .zero }

/-- All that a command can do: events, a move of the frame, a request taken and answered, the removal of a notice that ends
NOTICE-TAKE's frame, or device reset. -/
inductive Move (s : State) : State → Prop
  | events {t : State} (h : Events s t) : Move s t
  | frame (p : Port) (h : FrameMove s p) : Move s { s with port := p }
  | taken (c : Instr) (u : State) (a : Answer) (ha : s.port.awaits c.requestBytes = true)
      (h : u = s ∨ Effect c s u ∨ Events s u) : Move s (u.answer c.requestBytes a)
  | removed (h : s.port.answersTake = true) :
      Move s { s.removeClaimed with port := { s.port with phase := .trailing, miso := .zero, claim := none } }
  | reset (cause : ResetCause) {t : State} (h : execDeviceReset cause s = .next t) : Move s t

section Moves

variable {s t u : State}

theorem Move.unchanged : Move s s := .events .refl

theorem Move.of_next (h : (Host.Outcome.next u : StepOutcome) = .next t) (hu : Move s u) : Move s t := by
  cases h
  exact hu

theorem Move.request {c : Instr} (hw : c.wellFormed = true) (hb : c.requestBytes ≠ []) (h : exec c s = .next t) : Move s t := by
  rw [exec_request hw hb] at h
  rcases takeRequest_cases h with ⟨ha, rfl⟩ | ⟨-, rfl⟩
  · exact .taken c _ _ ha ((requestAct_served hw hb s).effect.imp_right And.right)
  · exact .unchanged

theorem Move.requestByteArrival {b : Byte} (h : exec (.requestByteArrival b) s = .next t) : Move s t := by
  rcases requestByteArrival_cases b s with he | ⟨hp, hl, he⟩ | ⟨c, hb, hw, -, he⟩
  · exact .of_next (he.symm.trans h) .unchanged
  · exact .of_next (he.symm.trans h) (.frame _ (.counted b hp hl))
  · exact .request hw (by simp [hb]) (he.symm.trans h)

theorem Move.csnFall (h : exec .csnFall s = .next t) : Move s t := by
  change execCsnFall s = _ at h
  unfold execCsnFall at h
  split_ifs at h with hp hh
  · exact .of_next h (.frame _ (.begunHeld hp hh))
  · exact .of_next h (.frame _ (.begun hp (Bool.eq_false_iff.mpr hh)))
  · exact .of_next h .unchanged

theorem Move.csnRise (h : exec .csnRise s = .next t) : Move s t := by
  change execCsnRise s = _ at h
  unfold execCsnRise at h
  split_ifs at h with hp
  · exact .of_next h .unchanged
  · exact .of_next h (.frame _ .ended)

theorem Move.lastResultByteEnd (h : exec .lastResultByteEnd s = .next t) : Move s t := by
  change execLastResultByteEnd s = _ at h
  unfold execLastResultByteEnd at h
  split_ifs at h with hp
  · exact .of_next h (.frame _ (.finished hp.1 hp.2))
  · exact .of_next h .unchanged

theorem Move.noticeTakeRemoval (h : exec .noticeTakeRemoval s = .next t) : Move s t := by
  change execNoticeTakeRemoval s = _ at h
  unfold execNoticeTakeRemoval at h
  split_ifs at h with hp
  · exact .of_next h (.removed hp)
  · exact .of_next h .unchanged

/-- Every command is one of the moves. -/
theorem exec_move {c : Instr} (h : exec c s = .next t) : Move s t := by
  cases c
  case csnFall => exact .csnFall h
  case csnRise => exact .csnRise h
  case lastResultByteEnd => exact .lastResultByteEnd h
  case noticeTakeRemoval => exact .noticeTakeRemoval h
  case requestByteArrival b => exact .requestByteArrival h
  case deviceReset cause => exact .reset cause h
  case conversionCompletion => exact .events (Measured.events (.conversionCompletion h))
  case settleEvent => exact .events (.settleEvent h)
  case trigFallingEdge => exact .events (.trigFallingEdge h)
  case activeEdge e elapsed => exact .events (Measured.events (.of_next h (.activeEdge s e elapsed)))
  case oppositeEdge e elapsed => exact .events (Measured.events (.of_next h (.oppositeEdge s e elapsed)))
  case overflow e => exact .events (Measured.events (.of_next h (.rangeEnd s (by decide) e)))
  case stall e => exact .events (Measured.events (.of_next h (.rangeEnd s (by decide) e)))
  case intervalExpiry => exact .events (.intervalExpiry h)
  case leaseExpiry => exact .events (.leaseExpiry h)
  case windowEnd e => exact .events (Measured.events (.of_next h (.deliverWindow s e)))
  case modeChangeCarriedOut => exact .events (.modeChangeCarriedOut h)
  case rstnRise => exact .events (.of_next h (.single .released))
  case unknownCode code =>
    by_cases hw : (Instr.unknownCode code).wellFormed = true
    · exact .request hw (List.cons_ne_nil _ _) h
    · rw [show exec (.unknownCode code) s = .next s from if_neg hw] at h
      exact .of_next h .unchanged
  all_goals exact .request rfl (by exact List.cons_ne_nil _ _) h

/-- A step idles or is the move of the command at the front of the queue, whose queue has that command taken off (log 1). -/
theorem step_move (h : step s = .next t) : t = s ∨ ∃ rest, Move { s with pending := rest } t := by
  unfold step at h
  split at h
  · cases h
    exact .inl rfl
  · next rest _ => exact .inr ⟨rest, exec_move h⟩

end Moves

end Sys2Proof.Machine
end

section
/-! The watch table, the pending list and the compose buffer agree after every step. -/

namespace Sys2Proof.Machine

/-! ## A sample at one watch -/

section Sample

variable {w u : Watch} {v : Word} {n : Nat}

/-- What is left to show when a watch that was not EXPIRED has been judged and stands in QUIET, QUALIFYING or TRIPPED. -/
theorem Watch.Sound.judged (h : w.Sound) (he : w.state ≠ .expired) (hset : u.settings = w.settings)
    (hlease : u.leaseRemaining = w.leaseRemaining) (hstate : u.state = .quiet ∨ u.state = .qualifying ∨ u.state = .tripped)
    (hdwell : if u.state = .qualifying then 1 ≤ u.dwellCount ∧ u.dwellCount < w.settings.dwell else u.dwellCount = 0)
    (hdelta : w.settings.kind = .delta → u.state ≠ .tripped ∧ u.reference ≠ none)
    (href : u.reference ≠ none → w.settings.kind = .delta) (hn : u.notice.map (·.kind) ≠ some .expiry) : u.Sound := by
  have hne : u.state ≠ .expired := by rcases hstate with hs | hs | hs <;> simp [hs]
  have hna : u.state ≠ .arming := by rcases hstate with hs | hs | hs <;> simp [hs]
  have hl := h.leaseCount
  rw [if_neg he] at hl
  exact
    { dwellRange := hset ▸ h.dwellRange
      stepRange := hset ▸ h.stepRange
      bandLevel := hset ▸ h.bandLevel
      dwellCount := hset ▸ hdwell
      leaseCount := by rw [if_neg hne, hset, hlease]; exact hl
      expiredNotice := ⟨fun hs => absurd hs hne, fun hs => absurd hs hn⟩
      neverTrippedDelta := fun hk => (hdelta (hset ▸ hk)).1
      referenceOfDelta := fun hr => hset ▸ href hr
      armingHistory := fun hs => absurd hs hna
      judgedReference := fun hk _ => (hdelta (hset ▸ hk)).2 }

theorem Watch.Sound.notice_ne_expiry (h : w.Sound) (he : w.state ≠ .expired) : w.notice.map (·.kind) ≠ some .expiry :=
  fun hn => he (h.expiredNotice.mpr hn)

/-- The first good sample of a DELTA watch keeps it sound (R38). -/
theorem Watch.Sound.firstOfDelta (h : w.Sound) (hk : w.settings.kind = .delta) (hs : w.state = .arming) :
    (w.goodSample v).posted.Sound := by
  have he : w.state ≠ .expired := by simp [hs]
  rw [Watch.goodSample_firstOfDelta hk hs]
  exact h.judged he rfl rfl (.inl rfl) rfl (fun _ => ⟨nofun, Option.some_ne_none v⟩) (fun _ => hk) (h.notice_ne_expiry he)

/-- In a watch whose run stands at `n`, the run is below the dwell, and a DELTA watch has its reference (R13, R14). -/
theorem Watch.Sound.run (h : w.Sound) (hr : w.RunAt n) :
    w.state ≠ .expired ∧ n < w.settings.dwell ∧ (w.settings.kind = .delta → w.reference ≠ none) := by
  have hdwell := h.dwellRange.1
  obtain ⟨hs, rfl⟩ | ⟨hs, hk, rfl⟩ | ⟨hs, rfl⟩ := hr
  · exact ⟨by simp [hs], hdwell, fun hk => h.judgedReference hk (.inl hs)⟩
  · exact ⟨by simp [hs], hdwell, fun hd => absurd hd hk⟩
  · have hc := h.dwellCount
    rw [if_pos hs] at hc
    exact ⟨by simp [hs], hc.2, fun hk => h.judgedReference hk (.inr hs)⟩

/-- A good sample that adds to a run, completes it or ends it keeps the watch sound (R36, R39, R40). -/
theorem Watch.Sound.goodSample_run (h : w.Sound) (hr : w.RunAt n) : (w.goodSample v).posted.Sound := by
  obtain ⟨he, hn, href⟩ := h.run hr
  rw [Watch.goodSample_run hr]
  cases ht : w.entryTest v with
  | false =>
    rw [Watch.qualify_fails (w := w.heard v) ht]
    exact h.judged he rfl rfl (.inl rfl) rfl (fun hk => ⟨nofun, href hk⟩) h.referenceOfDelta (h.notice_ne_expiry he)
  | true =>
    rcases Nat.lt_or_eq_of_le (Nat.succ_le_of_lt hn) with hlt | heq
    · rw [Watch.qualify_counts (w := w.heard v) ht hlt]
      exact h.judged he rfl rfl (.inr (.inl rfl)) ⟨Nat.succ_pos n, hlt⟩ (fun hk => ⟨nofun, href hk⟩) h.referenceOfDelta
        (h.notice_ne_expiry he)
    · rw [Watch.qualify_completes (w := w.heard v) ht heq]
      by_cases hk : w.settings.kind = .delta
      · rw [Watch.act_delta (w := w.heard v) hk]
        exact h.judged he rfl rfl (.inl rfl) rfl (fun _ => ⟨nofun, Option.some_ne_none v⟩) (fun _ => hk) (by simp [Judgement.posted])
      · rw [Watch.act_level (w := w.heard v) hk]
        exact h.judged he rfl rfl (.inr (.inr rfl)) rfl (fun hd => absurd hd hk) h.referenceOfDelta (by simp [Judgement.posted])

/-- A good sample keeps a TRIPPED watch sound (R41). -/
theorem Watch.Sound.goodSample_tripped (h : w.Sound) (hs : w.state = .tripped) : (w.goodSample v).posted.Sound := by
  have he : w.state ≠ .expired := by simp [hs]
  have hk : w.settings.kind ≠ .delta := fun hd => h.neverTrippedDelta hd hs
  have hd := h.dwellCount
  rw [if_neg (by simp [hs])] at hd
  rw [Watch.goodSample_tripped hs]
  split_ifs
  · exact h.judged he rfl rfl (.inl rfl) rfl (fun hd => absurd hd hk) h.referenceOfDelta (by simp [Judgement.posted])
  · exact h.judged he rfl rfl (.inr (.inr hs)) (if_neg (by simp [Judgement.posted, Judgement.unchanged, Watch.heard, hs]) |>.mpr hd)
      (fun hd => absurd hd hk) h.referenceOfDelta (h.notice_ne_expiry he)

/-- A good sample keeps a watch in service sound. -/
theorem Watch.Sound.goodSample (h : w.Sound) (hin : w.inService = true) : (w.goodSample v).posted.Sound := by
  cases hs : w.state with
  | arming =>
    by_cases hk : w.settings.kind = .delta
    · exact h.firstOfDelta hk hs
    · exact h.goodSample_run (.inr (.inl ⟨hs, hk, rfl⟩))
  | quiet => exact h.goodSample_run (.inl ⟨hs, rfl⟩)
  | qualifying => exact h.goodSample_run (.inr (.inr ⟨hs, rfl⟩))
  | tripped => exact h.goodSample_tripped hs
  | suspended => simp [Watch.inService, hs] at hin
  | expired => simp [Watch.inService, hs] at hin

theorem Watch.Sound.evaluate (h : w.Sound) (c : ChannelId) (faulted : Bool) : (evaluate c v faulted w).posted.Sound := by
  unfold Machine.evaluate
  split_ifs with hin
  · exact h.faultedSample ((Watch.inService_iff w).mp hin.2).2
  · exact h.goodSample hin.2
  · exact h

end Sample

/-! ## What requests make of one watch -/

section Handled

variable {w u : Watch}

theorem Handled.keeps (h : Handled w u) : u.settings = w.settings ∧ u.notice = w.notice := by
  cases h <;> exact ⟨rfl, rfl⟩

theorem Watch.Sound.handled (h : w.Sound) (hu : Handled w u) : u.Sound := by
  cases hu with
  | kept => exact h
  | reloaded he => exact h.reload he
  | suspended he => exact h.suspended he
  | resumed he => exact h.resumed he

theorem Watch.amended_keeps (w : Watch) (t : Settings) : (w.amended t).settings = t ∧ (w.amended t).notice = w.notice := by
  unfold Watch.amended
  split_ifs <;> exact ⟨rfl, rfl⟩

theorem ComposeBuffer.toSettings_bandLevel (b : ComposeBuffer) : b.toSettings.levelB.isSome = b.toSettings.kind.isBand := by
  show (if b.kind.isBand then some b.levelB else none).isSome = b.kind.isBand
  cases b.kind.isBand <;> rfl

theorem ComposeBuffer.newWatch_sound {b : ComposeBuffer} (hd : 1 ≤ b.dwell ∧ b.dwell ≤ 64) (hs : b.step ≠ 0#16) :
    b.newWatch.Sound := by
  refine ⟨hd, hs, b.toSettings_bandLevel, ?_, ?_, ?_, ?_, ?_, ?_, ?_⟩ <;> cases hb : b.startSuspended <;>
    simp [ComposeBuffer.newWatch, ComposeBuffer.toSettings, hb]

/-- A watch that is not EXPIRED stays sound when its notice is taken (R63). -/
theorem Watch.Sound.withoutNotice (h : w.Sound) (he : w.state ≠ .expired) : Watch.Sound { w with notice := none } :=
  { h with expiredNotice := ⟨fun hs => absurd hs he, fun hs => by cases hs⟩ }

end Handled

/-! ## The removal of a notice -/

section Removal

variable {s : State} {i : SlotId} {w : Watch}

/-- The notice of slot `i` goes and its watch stays (R63). -/
def State.dropNotice (i : SlotId) (s : State) : State :=
  { s.mapWatches (fun j x => if j = i then { x with notice := none } else x) with joined := s.joined.filter fun j => j != i }

@[simp] theorem State.dropNotice_joined : (s.dropNotice i).joined = s.joined.filter fun j => j != i := rfl

theorem State.watchAt_dropNotice (hw : s.watchAt i = some w) (j : SlotId) :
    (s.dropNotice i).watchAt j = if j = i then some { w with notice := none } else s.watchAt j := by
  refine (State.watchAt_mapWatches s _ j).trans ?_
  by_cases hj : j = i
  · subst hj
    simp [hw]
  · simp [hj]

theorem State.generationAt_dropNotice (j : SlotId) : (s.dropNotice i).generationAt j = s.generationAt j :=
  State.generationAt_mapWatches s _ j

theorem State.removeNotice_free (hw : s.watchAt i = none) : s.removeNotice i = s := by
  simp only [State.removeNotice, hw]

/-- The removal of an EXPIRY notice frees the slot (R64). -/
theorem State.removeNotice_expired (hw : s.watchAt i = some w) (he : w.state = .expired) :
    s.removeNotice i = s.freeWatches fun j _ => j == i := by
  simp only [State.removeNotice, hw]
  exact if_pos (by simp [Watch.isExpired, he])

/-- The removal of any other notice leaves the watch (R63). -/
theorem State.removeNotice_live (hw : s.watchAt i = some w) (he : w.state ≠ .expired) : s.removeNotice i = s.dropNotice i := by
  simp only [State.removeNotice, hw]
  exact if_neg (by simpa [Watch.isExpired] using he)

end Removal

/-! ## The table -/

section Table

variable {s t : State}

/-- Changing live watches keeps the table sound when each stays sound and keeps or lacks a notice as before. -/
theorem State.TableSound.mapWatches (h : s.TableSound) {f : SlotId → Watch → Watch}
    (hf : ∀ i w, s.watchAt i = some w → (f i w).Sound ∧ ((f i w).notice = none ↔ w.notice = none)) :
    (s.mapWatches f).TableSound := by
  refine ⟨fun i u hu => ?_, h.joinedOnce, fun i => ?_, h.bufferDwell, h.bufferStep⟩
  · rw [State.watchAt_mapWatches] at hu
    obtain ⟨w, hw, rfl⟩ := Option.map_eq_some_iff.mp hu
    exact (hf i w hw).1
  · rw [State.mapWatches_joined, h.listed i, State.watchAt_mapWatches]
    cases hw : s.watchAt i with
    | none => simp
    | some w => simp [(hf i w hw).2]

theorem State.TableSound.setWatch (h : s.TableSound) {i : SlotId} {w u : Watch} (hw : s.watchAt i = some w) (hu : u.Sound)
    (hn : u.notice = w.notice) : (s.setWatch i u).TableSound := by
  refine h.mapWatches fun j x hx => ?_
  split_ifs with hj
  · subst hj
    rw [hw] at hx
    cases hx
    exact ⟨hu, by rw [hn]⟩
  · exact ⟨h.watches j x hx, Iff.rfl⟩

/-- Filling a FREE slot with a sound watch that has no notice keeps the table sound. -/
theorem State.TableSound.fillSlot (h : s.TableSound) {i : SlotId} {w : Watch} (hi : s.watchAt i = none) (hw : w.Sound)
    (hn : w.notice = none) : (s.fillSlot i w).TableSound := by
  refine ⟨fun j u hu => ?_, h.joinedOnce, fun j => ?_, h.bufferDwell, h.bufferStep⟩
  · rw [State.watchAt_fillSlot] at hu
    split_ifs at hu
    · cases hu
      exact hw
    · exact h.watches j u hu
  · rw [State.fillSlot_joined, h.listed j, State.watchAt_fillSlot]
    by_cases hj : j = i
    · subst hj
      simp [hi, hn]
    · rw [if_neg hj]

theorem State.TableSound.dropNotice (h : s.TableSound) {i : SlotId} {w : Watch} (hw : s.watchAt i = some w)
    (he : w.state ≠ .expired) : (s.dropNotice i).TableSound := by
  refine ⟨fun j u hu => ?_, h.joinedOnce.filter _, fun j => ?_, h.bufferDwell, h.bufferStep⟩
  · rw [State.watchAt_dropNotice hw] at hu
    split_ifs at hu
    · cases hu
      exact (h.watches i w hw).withoutNotice he
    · exact h.watches j u hu
  · rw [State.dropNotice_joined, List.mem_filter, h.listed j, State.watchAt_dropNotice hw]
    by_cases hj : j = i <;> simp [hj]

theorem State.TableSound.removeNotice (h : s.TableSound) (i : SlotId) : (s.removeNotice i).TableSound := by
  cases hw : s.watchAt i with
  | none => rwa [State.removeNotice_free hw]
  | some w =>
    by_cases he : w.state = .expired
    · rw [State.removeNotice_expired hw he]
      exact h.free _
    · rw [State.removeNotice_live hw he]
      exact h.dropNotice hw he

theorem State.TableSound.removeClaimed (h : s.TableSound) : s.removeClaimed.TableSound := by
  unfold State.removeClaimed
  split
  · exact h
  · split_ifs
    · exact h.removeNotice _
    · exact h

theorem State.TableSound.reset : State.reset.TableSound := by
  have free : ∀ i, State.reset.watchAt i = none := fun i => by simp [State.watchAt, State.reset, Slot.atReset]
  refine ⟨fun i w hw => ?_, List.nodup_nil, fun i => ?_, by decide, by decide⟩
  · rw [free i] at hw
    cases hw
  · rw [free i]
    simp [State.reset]

/-- What a validated record may be written into a watch from a sound buffer. -/
theorem State.TableSound.amended (h : s.TableSound) {i : SlotId} {w : Watch} (hw : s.watchAt i = some w) (he : w.state ≠ .expired) :
    (s.setWatch i (w.amended s.compose.toSettings)).TableSound :=
  h.setWatch hw ((h.watches i w hw).amended he _ h.bufferDwell h.bufferStep s.compose.toSettings_bandLevel)
    (w.amended_keeps _).2

theorem State.TableSound.resetTable (h : s.TableSound) : (resetTable s).1.TableSound :=
  { h.free (fun _ _ => true) with
    joinedOnce := List.nodup_nil
    listed := fun i => by
      have hfree := (h.free fun _ _ => true).listed i
      rw [h.joined_freeAll] at hfree
      exact hfree
    bufferDwell := State.TableSound.reset.bufferDwell
    bufferStep := State.TableSound.reset.bufferStep }

@[simp] theorem State.configure_joined (s : State) (k : ChannelId) (on : Bool) (edge : Option (EdgeInput × EdgeSettings)) :
    (s.configure k on edge).joined = s.joined := by
  unfold State.configure
  split <;> rfl

@[simp] theorem State.configure_compose (s : State) (k : ChannelId) (on : Bool) (edge : Option (EdgeInput × EdgeSettings)) :
    (s.configure k on edge).compose = s.compose := by
  unfold State.configure
  split <;> rfl

theorem Effect.tableSound {c : Instr} (he : Effect c s t) (h : s.TableSound) : t.TableSound := by
  cases he with
  | composed b hb =>
    obtain ⟨hd, hs⟩ := hb ⟨h.bufferDwell, h.bufferStep⟩
    exact { h with bufferDwell := hd, bufferStep := hs }
  | loaded i w hw =>
    have hsound := h.watches i w hw
    exact { h with bufferDwell := hsound.dwellRange, bufferStep := hsound.stepRange }
  | handled f hf =>
    exact h.mapWatches fun i w hw => ⟨(h.watches i w hw).handled (hf i w hw), by rw [(hf i w hw).keeps.2]⟩
  | amended i w hw he _ => exact h.amended hw he
  | created i hi _ => exact h.fillSlot hi (ComposeBuffer.newWatch_sound h.bufferDwell h.bufferStep) rfl
  | freed p => exact h.free p
  | tableReset => exact h.resetTable
  | configured k on edge =>
    exact h.of_eq (State.configure_slots s k on edge) (State.configure_joined s k on edge) (State.configure_compose s k on edge)
  | _ => exact h.of_eq rfl rfl rfl

theorem Event.tableSound (he : Event s t) (h : s.TableSound) : t.TableSound := by
  cases he with
  | arrival c v faulted _ =>
    have hentry : (s.setEntry c (s.channels[c].arrive v faulted)).TableSound := h.of_eq rfl rfl rfl
    exact hentry.judge _ fun i w hw => ⟨hw.evaluate c faulted, (evaluate_keeps c v faulted w).2⟩
  | tick => exact h.judge _ fun i w hw => ⟨hw.tick, w.tick_keeps.2⟩
  | lapse i =>
    refine h.judge _ fun j w hw => ?_
    split_ifs with hl
    · have hc := hl.2.1
      rw [Watch.counting_eq] at hc
      exact ⟨hw.expire (of_decide_eq_true hc).1, rfl⟩
    · exact ⟨hw, rfl⟩
  | _ => exact h.of_eq rfl rfl rfl

theorem Move.tableSound (hm : Move s t) (h : s.TableSound) : t.TableSound := by
  cases hm with
  | events he => exact he.induction h fun _ _ hstep hu => hstep.tableSound hu
  | frame p _ => exact h.of_eq rfl rfl rfl
  | taken c u a _ hu =>
    have hsound : u.TableSound := by
      obtain rfl | hu | hu := hu
      · exact h
      · exact hu.tableSound h
      · exact hu.induction h fun _ _ hstep hu => hstep.tableSound hu
    exact hsound.of_eq rfl rfl rfl
  | removed _ => exact h.removeClaimed.of_eq rfl rfl rfl
  | reset cause ht =>
    cases ht
    exact State.TableSound.reset.of_eq rfl rfl rfl

end Table

/-- Settles O13: every move of a command keeps the table sound (`Move.tableSound`), and so does taking it off the queue. -/
theorem stepKeepsTableSound : Obligations.StepKeepsTableSound := by
  unfold Obligations.StepKeepsTableSound
  intro s t h hstep
  obtain rfl | ⟨rest, hm⟩ := step_move hstep
  · exact h
  · exact hm.tableSound (h.of_eq rfl rfl rfl)

end Sys2Proof.Machine
end

section
/-! Live watches name enabled channels with fitting levels, an accepted plan converts enabled channels, and the supply stays in range
after every step. -/

namespace Sys2Proof.Machine

/-! ## Validation -/

section Validation

variable {s : State}

/-- The level B check of validation, for the band kinds alone (R95). -/
abbrev ComposeBuffer.BandFits (b : ComposeBuffer) : Prop :=
  b.kind = .outside ∨ b.kind = .inside → b.levelB.toNat ≤ channelMax b.channel ∧ b.levelA.toNat < b.levelB.toNat

theorem WatchKind.isBand_iff (k : WatchKind) : k.isBand = true ↔ k = .outside ∨ k = .inside := by
  cases k <;> simp [WatchKind.isBand]

/-- The test that validation makes of level B (R95). -/
theorem ComposeBuffer.bandFits_iff (b : ComposeBuffer) :
    (b.kind.isBand && (decide (channelMax b.channel < b.levelB.toNat) || decide (b.levelB.toNat ≤ b.levelA.toNat))) = true ↔
      ¬ b.BandFits := by
  simp only [Bool.and_eq_true, Bool.or_eq_true, decide_eq_true_eq, WatchKind.isBand_iff, ComposeBuffer.BandFits, Classical.not_imp]
  exact and_congr_right fun _ => by omega

/-- Validation in its checks (R95). -/
theorem State.failingField_eq (s : State) :
    s.failingField =
      if s.channels[s.compose.channel].enabled ≠ true then some 1#8
      else if ¬ s.compose.levelA.toNat ≤ channelMax s.compose.channel then some 3#8
      else if ¬ s.compose.BandFits then some 4#8
      else if ¬ (s.compose.kind = .outside →
        s.compose.levelA.toNat + 2 * s.compose.hysteresis.toNat ≤ s.compose.levelB.toNat) then some 5#8
      else none := by
  unfold State.failingField
  simp only [s.compose.bandFits_iff, Bool.not_eq_true', Bool.and_eq_true, beq_iff_eq, decide_eq_true_eq, Classical.not_imp,
    Nat.not_le, ne_eq, Bool.not_eq_true]

/-- A valid record (R95). -/
theorem State.failingField_none_iff (s : State) :
    s.failingField = none ↔
      s.channels[s.compose.channel].enabled = true ∧ s.compose.levelA.toNat ≤ channelMax s.compose.channel ∧
        s.compose.BandFits ∧
        (s.compose.kind = .outside →
          s.compose.levelA.toNat + 2 * s.compose.hysteresis.toNat ≤ s.compose.levelB.toNat) := by
  rw [State.failingField_eq]
  split_ifs <;> simp only [false_iff, true_iff] <;> tauto

/-- The settings of a valid record fit its enabled channel (R5). -/
theorem State.failingField_fits (h : s.failingField = none) :
    s.channels[s.compose.toSettings.channel].enabled = true ∧ s.compose.toSettings.Fits := by
  obtain ⟨henabled, hlevel, hband, hwide⟩ := s.failingField_none_iff.mp h
  have hgetD : s.compose.kind.isBand = true → s.compose.toSettings.levelB.getD 0#16 = s.compose.levelB := fun hk => by
    simp [ComposeBuffer.toSettings, hk]
  refine ⟨henabled, hlevel, fun hk => ?_, fun hk => ?_⟩
  · rw [hgetD hk]
    exact hband ((WatchKind.isBand_iff _).mp hk)
  · rw [hgetD ((WatchKind.isBand_iff _).mpr (.inl hk))]
    exact hwide hk

end Validation

/-! ## Where settings come from -/

/-- Every live watch of `t` has the settings that the watch of its slot has in `s`. -/
def SettingsFrom (s t : State) : Prop := ∀ i u, t.watchAt i = some u → ∃ w, s.watchAt i = some w ∧ u.settings = w.settings

section SettingsFrom

variable {s t : State}

theorem SettingsFrom.of_slots (h : t.slots = s.slots) : SettingsFrom s t :=
  fun i u hu => ⟨u, (State.watchAt_congr h i).symm.trans hu, rfl⟩

theorem SettingsFrom.mapWatches {f : SlotId → Watch → Watch} (hf : ∀ i w, s.watchAt i = some w → (f i w).settings = w.settings) :
    SettingsFrom s (s.mapWatches f) := fun i u hu => by
  rw [State.watchAt_mapWatches] at hu
  obtain ⟨w, hw, rfl⟩ := Option.map_eq_some_iff.mp hu
  exact ⟨w, hw, hf i w hw⟩

theorem SettingsFrom.judge {f : SlotId → Watch → Judgement} (hf : ∀ i w, (f i w).watch.settings = w.settings) :
    SettingsFrom s (s.judge f) :=
  SettingsFrom.mapWatches (f := fun i w => (f i w).posted) fun i w _ => by rw [Judgement.posted_settings, hf]

theorem SettingsFrom.freeWatches (p : SlotId → Watch → Bool) : SettingsFrom s (s.freeWatches p) := fun i u hu => by
  rw [State.watchAt_freeWatches] at hu
  split_ifs at hu
  exact ⟨u, hu, rfl⟩

theorem SettingsFrom.removeNotice (i : SlotId) : SettingsFrom s (s.removeNotice i) := by
  cases hw : s.watchAt i with
  | none =>
    rw [State.removeNotice_free hw]
    exact .of_slots rfl
  | some w =>
    by_cases he : w.state = .expired
    · rw [State.removeNotice_expired hw he]
      exact .freeWatches _
    · rw [State.removeNotice_live hw he]
      exact SettingsFrom.mapWatches fun j x _ => by split_ifs <;> rfl

end SettingsFrom

/-! ## What CHANNEL-SET writes -/

section Configure

variable {s : State} {k d : ChannelId} {on dropped : Bool} {edge : Option (EdgeInput × EdgeSettings)}

/-- CHANNEL-SET takes away no channel in use: it disables none that a live watch names or the plan contains (R135). -/
theorem State.takesAway_enabled (h : s.takesAway k on edge = false) (hu : s.Named k ∨ s.Contained k) : on = true := by
  unfold State.takesAway at h
  rw [Bool.or_eq_false_iff] at h
  rw [← State.namesChannel_iff, ← State.contains_iff, ← Bool.or_eq_true] at hu
  simpa [hu] using h.1

theorem ChannelEntry.configured_enabled (e : ChannelEntry) : (e.configured on dropped).enabled = on := by
  unfold ChannelEntry.configured
  split_ifs <;> rfl

theorem ChannelEntry.configured_latest (e : ChannelEntry) :
    (e.configured on dropped).latest = e.latest ∨ (e.configured on dropped).latest = 0#16 := by
  unfold ChannelEntry.configured
  split_ifs
  · exact .inr rfl
  · exact .inl rfl

/-- CHANNEL-SET writes the one entry (R136). -/
theorem State.configure_channels (s : State) (k : ChannelId) (on : Bool) (edge : Option (EdgeInput × EdgeSettings)) :
    ∃ dropped, ∀ d : ChannelId,
      (s.configure k on edge).channels[d] = if d = k then s.channels[k].configured on dropped else s.channels[d] := by
  obtain _ | ⟨e, t⟩ := edge
  · exact ⟨false, fun d => State.channels_setEntry s k d _⟩
  · exact ⟨(s.edgeSettings.get e).changesUnit t, fun d => State.channels_setEntry s k d _⟩

@[simp] theorem State.configure_plan (s : State) (k : ChannelId) (on : Bool) (edge : Option (EdgeInput × EdgeSettings)) :
    (s.configure k on edge).plan = s.plan := by
  unfold State.configure
  split <;> rfl

end Configure

/-! ## The invariant -/

section ChannelsSound

variable {s t : State}

/-- A latest value that channel 14 may hold (R131, R200). -/
def SupplyFits (v : Word) : Prop := v = 0#16 ∨ (1350 ≤ v.toNat ∧ v.toNat ≤ 2750)

/-- Settings and plan that stay, and channels in use that stay enabled, keep the channels sound. -/
theorem State.ChannelsSound.of_kept (h : s.ChannelsSound) (hw : SettingsFrom s t) (hp : t.plan = s.plan)
    (hen : ∀ d : ChannelId, s.Named d ∨ s.Contained d → s.channels[d].enabled = true → t.channels[d].enabled = true)
    (hsup : SupplyFits t.channels[(14 : ChannelId)].latest) : t.ChannelsSound where
  named i u hu := by
    obtain ⟨w, hw, hset⟩ := hw i u hu
    have hn := h.named i w hw
    simp only [hset]
    exact ⟨hen _ (.inl ⟨i, w, hw, rfl⟩) hn.1, hn.2⟩
  planned ha c hc := by
    rw [hp] at ha hc
    have hpl := h.planned ha c hc
    exact ⟨hen c (.inr ⟨ha, hc⟩) hpl.1, hpl.2⟩
  supply := hsup

theorem State.ChannelsSound.of_eq (h : s.ChannelsSound) (hw : SettingsFrom s t) (hc : t.channels = s.channels)
    (hp : t.plan = s.plan) : t.ChannelsSound :=
  h.of_kept hw hp (fun d _ he => by rw [hc]; exact he) (by rw [hc]; exact h.supply)

/-- Writing an entry that stays enabled keeps the channels sound, when channel 14 gets a value it may hold. -/
theorem State.ChannelsSound.setEntry (h : s.ChannelsSound) {k : ChannelId} {e : ChannelEntry}
    (he : e.enabled = s.channels[k].enabled) (hv : k = 14 → SupplyFits e.latest) : (s.setEntry k e).ChannelsSound := by
  refine h.of_kept (.of_slots rfl) rfl (fun d _ hd => ?_) ?_
  · rw [State.channels_setEntry]
    split_ifs with hk
    · rw [he, ← hk]
      exact hd
    · exact hd
  · rw [State.channels_setEntry]
    split_ifs with hk
    · exact hv hk.symm
    · exact h.supply

theorem State.ChannelsSound.arrival (h : s.ChannelsSound) {c : ChannelId} {v : Word} (faulted : Bool)
    (hv : sampleable c v = true) : (s.arrival c v faulted).ChannelsSound := by
  have hentry : (s.setEntry c (s.channels[c].arrive v faulted)).ChannelsSound :=
    h.setEntry rfl fun hc => .inr ((sampleable_iff c v).mp hv hc)
  exact hentry.of_eq (.judge fun _ w => (evaluate_keeps c v faulted w).1) rfl rfl

theorem State.ChannelsSound.configure (h : s.ChannelsSound) {k : ChannelId} {on : Bool}
    {edge : Option (EdgeInput × EdgeSettings)} (hn : s.takesAway k on edge = false) : (s.configure k on edge).ChannelsSound := by
  obtain ⟨dropped, hch⟩ := s.configure_channels k on edge
  refine h.of_kept (.of_slots (State.configure_slots s k on edge)) (State.configure_plan s k on edge) (fun d hu hd => ?_) ?_
  · rw [hch]
    split_ifs with hk
    · rw [ChannelEntry.configured_enabled]
      exact State.takesAway_enabled hn (hk ▸ hu)
    · exact hd
  · rw [hch]
    split_ifs with hk
    · subst hk
      rcases ChannelEntry.configured_latest (on := on) (dropped := dropped) s.channels[(14 : ChannelId)] with hl | hl
      · rw [hl]
        exact h.supply
      · exact .inl hl
    · exact h.supply

/-- A watch written from a valid record keeps the channels sound (R5, R95). -/
theorem State.ChannelsSound.written (h : s.ChannelsSound) (hf : s.failingField = none) (hc : t.channels = s.channels)
    (hp : t.plan = s.plan)
    (hw : ∀ i u, t.watchAt i = some u → u.settings = s.compose.toSettings ∨ s.watchAt i = some u) : t.ChannelsSound where
  named i u hu := by
    rcases hw i u hu with hset | hold
    · simp only [hc, hset]
      exact State.failingField_fits hf
    · rw [hc]
      exact h.named i u hold
  planned := by rw [hc, hp]; exact h.planned
  supply := by rw [hc]; exact h.supply

theorem State.ChannelsSound.reset : State.reset.ChannelsSound where
  named i w hw := by
    rw [show State.reset.watchAt i = none by simp [State.watchAt, State.reset, Slot.atReset]] at hw
    cases hw
  planned ha := by cases ha
  supply := .inl (by decide)

theorem Effect.channelsSound {c : Instr} (he : Effect c s t) (h : s.ChannelsSound) : t.ChannelsSound := by
  cases he with
  | handled f hf => exact h.of_eq (.mapWatches fun i w hw => (hf i w hw).keeps.1) rfl rfl
  | amended i w hw _ hf =>
    refine h.written hf rfl rfl fun j u hu => ?_
    rw [State.watchAt_setWatch s hw] at hu
    split_ifs at hu
    · cases hu
      exact .inl (w.amended_keeps _).1
    · exact .inr hu
  | created i _ hf =>
    refine h.written hf rfl rfl fun j u hu => ?_
    rw [State.watchAt_fillSlot] at hu
    split_ifs at hu
    · cases hu
      exact .inl rfl
    · exact .inr hu
  | freed p => exact h.of_eq (.freeWatches p) rfl rfl
  | tableReset => exact h.of_eq (SettingsFrom.freeWatches fun _ _ => true) rfl rfl
  | configured k on edge _ hn => exact h.configure hn
  | read k => exact h.setEntry rfl fun hk => hk ▸ h.supply
  | planned p _ hp => exact ⟨h.named, fun _ => State.admits_planned hp, h.supply⟩
  | _ => exact h.of_eq (.of_slots rfl) rfl rfl

theorem Event.channelsSound (he : Event s t) (h : s.ChannelsSound) : t.ChannelsSound := by
  cases he with
  | arrival c v faulted hv => exact h.arrival faulted hv
  | tick => exact h.of_eq (.judge fun _ w => w.tick_keeps.1) rfl rfl
  | lapse i => exact h.of_eq (.judge fun _ w => by split_ifs <;> rfl) rfl rfl
  | _ => exact h.of_eq (.of_slots rfl) rfl rfl

theorem State.ChannelsSound.removeClaimed (h : s.ChannelsSound) : s.removeClaimed.ChannelsSound := by
  unfold State.removeClaimed
  split
  · exact h
  · split_ifs
    · exact h.of_eq (.removeNotice _) (by unfold State.removeNotice; split <;> [rfl; split_ifs <;> rfl])
        (by unfold State.removeNotice; split <;> [rfl; split_ifs <;> rfl])
    · exact h

theorem Move.channelsSound (hm : Move s t) (h : s.ChannelsSound) : t.ChannelsSound := by
  cases hm with
  | events he => exact he.induction h fun _ _ hstep hu => hstep.channelsSound hu
  | frame p _ => exact h.of_eq (.of_slots rfl) rfl rfl
  | taken c u a _ hu =>
    have hsound : u.ChannelsSound := by
      obtain rfl | hu | hu := hu
      · exact h
      · exact hu.channelsSound h
      · exact hu.induction h fun _ _ hstep hu => hstep.channelsSound hu
    exact hsound.of_eq (.of_slots rfl) rfl rfl
  | removed _ => exact h.removeClaimed.of_eq (.of_slots rfl) rfl rfl
  | reset cause ht =>
    cases ht
    exact State.ChannelsSound.reset.of_eq (.of_slots rfl) rfl rfl

end ChannelsSound

/-- Settles O14: every move of a command keeps the channels sound (`Move.channelsSound`). -/
theorem stepKeepsChannelsSound : Obligations.StepKeepsChannelsSound := by
  unfold Obligations.StepKeepsChannelsSound
  intro s t h hstep
  obtain rfl | ⟨rest, hm⟩ := step_move hstep
  · exact h
  · exact hm.channelsSound (h.of_eq (.of_slots rfl) rfl rfl)

end Sys2Proof.Machine
end

section
/-! The sweep engine, the reference, the edge channels and the time base follow the mode after every step. -/

namespace Sys2Proof.Machine

/-! ## Conversion cycles -/

section Cycle

theorem mem_priorityCycle (members priorities : List ChannelId) :
    (members.flatMap fun m => priorities ++ [m]) = [] ↔ members = [] := by
  cases members <;> simp

/-- A plan that check 3 admits converts at least one channel (R145, R146). -/
theorem State.admits_cycle_ne_nil {s : State} {p : SweepPlan} (h : s.admits p = true) : p.cycle ≠ [] := by
  obtain ⟨-, hmembers, -⟩ := s.admits_iff p |>.mp h
  unfold SweepPlan.cycle
  cases hm : p.mode <;> dsimp only
  · exact List.cons_ne_nil _ _
  · exact fun hc => (hmembers (by simp [hm])).1 ((channelsOf_eq_nil _).mp hc)
  · exact fun hc => (hmembers (by simp [hm])).1 ((channelsOf_eq_nil _).mp hc)
  · exact fun hc => (hmembers (by simp [hm])).1 ((channelsOf_eq_nil _).mp ((mem_priorityCycle _ _).mp hc))

end Cycle

/-! ## Edge records -/

section EdgeRecords

variable {s : State} {e f : EdgeInput}

theorem PerEdge.get_set {α : Type} (p : PerEdge α) (x : α) (e f : EdgeInput) :
    (p.set x e).get f = if f = e then x else p.get f := by
  cases e <;> cases f <;> rfl

theorem State.setEdge_edges (s : State) (e : EdgeInput) (r : EdgeRecord) (f : EdgeInput) :
    (s.setEdge e r).edges.get f = if f = e then r else s.edges.get f := PerEdge.get_set _ _ _ _

theorem State.tickEdges_edges (s : State) (e : EdgeInput) :
    s.tickEdges.edges.get e = (s.edges.get e).tick (s.edgeSettings.get e) := by
  cases e <;> rfl

/-- The records under a change of mode (R164, R173, R174). -/
theorem State.changedEdges_get (s : State) (m : Mode) (e : EdgeInput) :
    (s.changedEdges m).get e =
      if m = .run ∧ s.channels[edgeChannel e].enabled = true then EdgeRecord.started true else .stopped := by
  cases m with
  | config => cases e <;> rfl
  | hold => cases e <;> rfl
  | run => cases e <;> simp [State.changedEdges, PerEdge.get, EdgeRecord.started, EdgeRecord.stopped] <;> split_ifs <;> rfl

end EdgeRecords

/-! ## The invariant -/

section EngineSound

variable {s t : State}

/-- Enabled flags, plan and mode decide alone what the other clauses ask: the blocks they speak of stay. -/
theorem State.EngineSound.of_eq (h : s.EngineSound) (hengine : t.engine = s.engine) (hmode : t.mode = s.mode)
    (href : t.reference = s.reference) (hplan : t.plan = s.plan) (hpos : t.position = s.position)
    (hreq : t.requested = s.requested) (htime : t.timeBase.countdown = s.timeBase.countdown)
    (hen : ∀ c : ChannelId, t.channels[c].enabled = s.channels[c].enabled) (hedges : t.edges = s.edges)
    (hset : t.edgeSettings = s.edgeSettings) : t.EngineSound where
  running := by rw [hengine, hmode, href, hplan]; exact h.running
  waiting := by rw [hengine, href]; exact h.waiting
  armed := by rw [hengine, hplan]; exact h.armed
  converting := by rw [hengine, href, hpos, hplan]; exact h.converting
  resting := by rw [hengine, hpos]; exact h.resting
  cycle := by rw [hplan]; exact h.cycle
  change := by rw [hreq, hmode, hengine]; exact h.change
  clock := by rw [htime, hmode]; exact h.clock
  unmeasured e := by rw [hmode, hen, hedges]; exact h.unmeasured e
  counting e := by rw [hedges]; exact h.counting e
  windows e := by rw [hset, hedges]; exact h.windows e

/-- Moves of the edge records alone keep the engine sound. -/
theorem State.EngineSound.edges (h : s.EngineSound) {p : PerEdge EdgeRecord}
    (hp : ∀ e, (s.edges.get e).Moves (s.edgeSettings.get e).mode (p.get e)) : State.EngineSound { s with edges := p } :=
  { h with
    unmeasured := fun e hu => (hp e).stopped (h.unmeasured e hu)
    counting := fun e => ((hp e).counting (h.counting e) (h.windows e)).1
    windows := fun e => ((hp e).counting (h.counting e) (h.windows e)).2 }

theorem EdgeRecord.Moves.refl (m : EdgeMode) (r : EdgeRecord) : r.Moves m r := ⟨id, fun hc hm => ⟨hc, hm⟩⟩

theorem State.EngineSound.setEdge (h : s.EngineSound) {e : EdgeInput} {r : EdgeRecord}
    (hr : (s.edges.get e).Moves (s.edgeSettings.get e).mode r) : (s.setEdge e r).EngineSound := by
  refine h.edges fun f => ?_
  rw [PerEdge.get_set]
  split_ifs with hf
  · exact hf ▸ hr
  · exact .refl _ _

theorem State.EngineSound.tickEdges (h : s.EngineSound) : s.tickEdges.EngineSound := by
  refine h.edges fun e => ?_
  have ht := s.tickEdges_edges e
  exact ht ▸ .tick _ _

theorem State.EngineSound.arrival (h : s.EngineSound) (c : ChannelId) (v : Word) (faulted : Bool) :
    (s.arrival c v faulted).EngineSound := by
  refine h.of_eq rfl rfl rfl rfl rfl rfl rfl (fun d => ?_) rfl rfl
  rw [show (s.arrival c v faulted).channels[d] = _ from s.channels_setEntry c d _]
  split_ifs with hd
  · rw [hd]
    rfl
  · rfl

/-- A change of mode leaves engine, edge channels and time base as the new mode asks (R77, R164, R173, R174, R180 to R183). -/
theorem State.EngineSound.intoMode (h : s.EngineSound) (m : Mode) : (s.intoMode m).EngineSound where
  running he := absurd rfl he
  waiting he := by cases he
  armed he := by cases he
  converting he := by cases he
  resting _ := rfl
  cycle := h.cycle
  change hr := absurd rfl hr
  clock := by
    show (s.timeBase.changeMode s.mode m).countdown.isSome = decide (m ≠ .config)
    have hclock := h.clock
    cases m <;> cases hs : s.mode <;> simp_all [TimeBase.changeMode]
  unmeasured e hu := by
    refine (s.changedEdges_get m e).trans (if_neg ?_)
    rintro ⟨hm, hen⟩
    rcases hu with hu | hu
    · exact hu hm
    · exact Bool.false_ne_true (hu.symm.trans hen)
  counting e _ := by
    rw [show (s.intoMode m).edges.get e = _ from s.changedEdges_get m e]
    split_ifs <;> exact ⟨rfl, rfl, rfl⟩
  windows e _ := by
    rw [show (s.intoMode m).edges.get e = _ from s.changedEdges_get m e]
    split_ifs <;> exact ⟨rfl, rfl⟩

/-- An engine that leaves what it did for state `x` at position `n` stays sound when `x` asks no more than what holds. -/
theorem State.EngineSound.engine (h : s.EngineSound) {x : EngineState} {n : Nat}
    (hrun : x ≠ .idle → s.mode = .run ∧ s.reference ≠ .off ∧ s.plan.accepted = true)
    (hwait : x = .waitRef → s.reference = .settling) (harmed : x = .armed → s.plan.trigger = .pin)
    (hconv : x = .converting → s.reference = .ready ∧ n < s.plan.cycle.length) (hrest : x ≠ .converting → n = 0)
    (hchange : s.requested ≠ none → x = .converting ∨ x = .idle) :
    State.EngineSound { s with engine := x, position := n } :=
  { h with
    running := hrun
    waiting := hwait
    armed := harmed
    converting := hconv
    resting := hrest
    change := fun hr => ⟨(h.change hr).1, hchange hr⟩ }

theorem State.EngineSound.cycle_pos (h : s.EngineSound) (ha : s.plan.accepted = true) : 0 < s.plan.cycle.length :=
  List.length_pos_iff.mpr (h.cycle ha)

/-- The state in which a run begins (R153, R154, R156). -/
theorem State.EngineSound.runs (h : s.EngineSound) (hm : s.mode = .run) (ho : s.reference ≠ .off) (ha : s.plan.accepted = true)
    (hr : s.requested = none) : State.EngineSound { s with engine := s.runState, position := 0 } := by
  unfold State.runState
  split_ifs with href
  · exact h.engine (fun _ => ⟨hm, ho, ha⟩) nofun nofun (fun _ => ⟨href, h.cycle_pos ha⟩) (fun hn => absurd rfl hn)
      (fun hn => absurd hr hn)
  · have hset : s.reference = .settling := by
      cases hs : s.reference <;> first | rfl | contradiction
    exact h.engine (fun _ => ⟨hm, ho, ha⟩) (fun _ => hset) nofun nofun (fun _ => rfl) (fun hn => absurd hr hn)

/-- The engine after a completion (R158, R159). -/
theorem State.EngineSound.completed (h : s.EngineSound) (hc : s.engine = .converting) :
    State.EngineSound { s with engine := s.engineNext.1, position := s.engineNext.2 } := by
  have hrun := h.running (by simp [hc])
  obtain ⟨href, -⟩ := h.converting hc
  have hrest : s.requested = none → State.EngineSound { s with engine := s.plan.rest, position := 0 } := fun hr => by
    unfold SweepPlan.rest
    split
    · exact h.engine (fun hn => absurd rfl hn) nofun nofun nofun (fun _ => rfl) (fun hn => absurd hr hn)
    · next ht => exact h.engine (fun _ => hrun) nofun (fun _ => ht) nofun (fun _ => rfl) (fun hn => absurd hr hn)
  have hconv : ∀ n, n < s.plan.cycle.length → State.EngineSound { s with engine := .converting, position := n } := fun n hn =>
    h.engine (fun _ => hrun) nofun nofun (fun _ => ⟨href, hn⟩) (fun hne => absurd rfl hne) (fun _ => .inl rfl)
  unfold State.engineNext
  split_ifs with hr hn
  · exact h.engine (fun hne => absurd rfl hne) nofun nofun nofun (fun _ => rfl) (fun _ => .inr rfl)
  · exact hconv _ hn
  · have hnone := Option.not_isSome_iff_eq_none.mp hr
    split
    · exact hrest hnone
    · exact hrest hnone
    · exact hconv 0 (h.cycle_pos hrun.2.2)
    · exact hconv 0 (h.cycle_pos hrun.2.2)

theorem State.EngineSound.started (h : s.EngineSound) (hm : s.mode = .run) (hr : s.requested = none)
    (ha : s.plan.accepted = true) (ho : s.reference ≠ .off) :
    State.EngineSound { s with engine := s.startState, position := 0 } := by
  unfold State.startState
  split
  · exact h.runs hm ho ha hr
  · next ht => exact h.engine (fun _ => ⟨hm, ho, ha⟩) nofun (fun _ => ht) nofun (fun _ => rfl) (fun hn => absurd hr hn)

/-- Outside RUN the engine is IDLE. -/
theorem State.EngineSound.idle_of_mode (h : s.EngineSound) (hm : s.mode ≠ .run) : s.engine = .idle := by
  by_contra hne
  exact hm (h.running hne).1

/-- CHANNEL-SET comes in CONFIG, where no edge channel is measured (R134, R173). -/
theorem State.EngineSound.configure (h : s.EngineSound) (hm : s.mode = .config) (k : ChannelId) (on : Bool)
    (edge : Option (EdgeInput × EdgeSettings)) : (s.configure k on edge).EngineSound := by
  have hstopped : ∀ e, s.edges.get e = .stopped := fun e => h.unmeasured e (.inl (by simp [hm]))
  have hcounting : ∀ e, (s.edges.get e).count = 0#16 ∧ (s.edges.get e).gateCountdown = 0#8 ∧ (s.edges.get e).windowDue = none :=
    fun e => by rw [hstopped e]; exact ⟨rfl, rfl, rfl⟩
  unfold State.configure
  split <;>
    exact { h with unmeasured := fun e _ => hstopped e, counting := fun e _ => hcounting e, windows := fun e _ => (hcounting e).2 }

theorem switchedOn_ne_off (r : ReferenceState) : switchedOn r ≠ .off := by
  cases r <;> exact nofun

theorem switchedOn_of_ne_off {r : ReferenceState} (h : r ≠ .off) : switchedOn r = r := by
  cases r <;> first | rfl | contradiction

theorem State.EngineSound.reset : State.reset.EngineSound := by
  constructor
  case unmeasured => intro e _; cases e <;> rfl
  case counting => intro e _; cases e <;> exact ⟨rfl, rfl, rfl⟩
  case windows => intro e _; cases e <;> exact ⟨rfl, rfl⟩
  all_goals decide

theorem Effect.engineSound {c : Instr} (he : Effect c s t) (h : s.EngineSound) : t.EngineSound := by
  cases he with
  | configured k on edge hm _ => exact h.configure hm k on edge
  | read k =>
    refine h.of_eq rfl rfl rfl rfl rfl rfl rfl (fun d => ?_) rfl rfl
    rw [State.channels_setEntry]
    split_ifs with hd
    · rw [hd]
    · rfl
  | planned p hm hp =>
    have hidle := h.idle_of_mode (by simp [hm])
    exact { h with
      running := fun hne => absurd hidle hne
      armed := fun ha => by rw [hidle] at ha; cases ha
      converting := fun hc => by rw [hidle] at hc; cases hc
      resting := fun _ => rfl
      cycle := fun _ => State.admits_cycle_ne_nil hp }
  | started hm hr hp ho => exact h.started hm hr hp ho
  | stopped hr => exact h.engine (fun hn => absurd rfl hn) nofun nofun nofun (fun _ => rfl) (fun hn => absurd hr hn)
  | switchedOn =>
    exact { h with
      running := fun hne => ⟨(h.running hne).1, switchedOn_ne_off _, (h.running hne).2.2⟩
      waiting := fun hw => congrArg Machine.switchedOn (h.waiting hw)
      converting := fun hc => ⟨congrArg Machine.switchedOn (h.converting hc).1, (h.converting hc).2⟩ }
  | switchedOff hidle =>
    exact { h with
      running := fun hne => absurd hidle hne
      waiting := fun hw => by rw [hidle] at hw; cases hw
      converting := fun hc => by rw [hidle] at hc; cases hc }
  | requested p hm hc => exact { h with change := fun _ => ⟨hm, .inl hc⟩ }
  | _ => exact h.of_eq rfl rfl rfl rfl rfl rfl rfl (fun _ => rfl) rfl rfl

theorem Event.engineSound (he : Event s t) (h : s.EngineSound) : t.EngineSound := by
  cases he with
  | arrival c v faulted _ => exact h.arrival c v faulted
  | edge e r hr => exact h.setEdge hr
  | tickEdges => exact h.tickEdges
  | intoMode m => exact h.intoMode m
  | completed hc => exact h.completed hc
  | reload hc => exact { h with clock := by rw [← h.clock, hc]; rfl }
  | settled hs hw =>
    exact { h with
      running := fun hne => ⟨(h.running hne).1, nofun, (h.running hne).2.2⟩
      waiting := fun hwait => absurd hwait hw
      converting := fun hc => ⟨rfl, (h.converting hc).2⟩ }
  | settledRun hs hw =>
    have hrun := h.running (by simp [hw])
    have hnone : s.requested = none := by
      by_contra hne
      rcases (h.change hne).2 with hx | hx <;> simp [hw] at hx
    exact { h with
      running := fun _ => ⟨hrun.1, nofun, hrun.2.2⟩
      waiting := nofun
      armed := nofun
      converting := fun _ => ⟨rfl, h.cycle_pos hrun.2.2⟩
      resting := fun _ => rfl
      change := fun hne => absurd hnone hne }
  | triggered ha =>
    have hrun := h.running (by simp [ha])
    have hnone : s.requested = none := by
      by_contra hne
      rcases (h.change hne).2 with hx | hx <;> simp [ha] at hx
    exact h.runs hrun.1 hrun.2.1 hrun.2.2 hnone
  | _ => exact h.of_eq rfl rfl rfl rfl rfl rfl rfl (fun _ => rfl) rfl rfl

/-- The removal of a notice concerns the watch table and the list alone (R63, R64). -/
theorem State.removeClaimed_rest (s : State) :
    { s.removeClaimed with slots := s.slots, joined := s.joined } = s := by
  unfold State.removeClaimed
  split
  · rfl
  · split_ifs
    · unfold State.removeNotice
      split
      · rfl
      · split_ifs <;> rfl
    · rfl

theorem State.EngineSound.removeClaimed (h : s.EngineSound) : s.removeClaimed.EngineSound := by
  have hrest : State.EngineSound { s.removeClaimed with slots := s.slots, joined := s.joined } := by
    rw [s.removeClaimed_rest]
    exact h
  exact hrest.of_eq rfl rfl rfl rfl rfl rfl rfl (fun _ => rfl) rfl rfl

theorem Move.engineSound (hm : Move s t) (h : s.EngineSound) : t.EngineSound := by
  cases hm with
  | events he => exact he.induction h fun _ _ hstep hu => hstep.engineSound hu
  | frame p _ => exact h.of_eq rfl rfl rfl rfl rfl rfl rfl (fun _ => rfl) rfl rfl
  | taken c u a _ hu =>
    have hsound : u.EngineSound := by
      obtain rfl | hu | hu := hu
      · exact h
      · exact hu.engineSound h
      · exact hu.induction h fun _ _ hstep hu => hstep.engineSound hu
    exact hsound.of_eq rfl rfl rfl rfl rfl rfl rfl (fun _ => rfl) rfl rfl
  | removed _ => exact h.removeClaimed.of_eq rfl rfl rfl rfl rfl rfl rfl (fun _ => rfl) rfl rfl
  | reset cause ht =>
    cases ht
    exact State.EngineSound.reset.of_eq rfl rfl rfl rfl rfl rfl rfl (fun _ => rfl) rfl rfl

end EngineSound

/-- Settles O15: every move of a command keeps the engine sound (`Move.engineSound`). -/
theorem stepKeepsEngineSound : Obligations.StepKeepsEngineSound := by
  unfold Obligations.StepKeepsEngineSound
  intro s t h hstep
  obtain rfl | ⟨rest, hm⟩ := step_move hstep
  · exact h
  · exact hm.engineSound (h.of_eq rfl rfl rfl rfl rfl rfl rfl (fun _ => rfl) rfl rfl)

end Sys2Proof.Machine
end

section
/-! MISO agrees with the phase and a take claim with the pending list after every step. -/

namespace Sys2Proof.Machine

section PortSound

variable {s t u : State}

/-- A take claim stands only in a frame that answers NOTICE-TAKE (R61). -/
theorem State.PortSound.claim_none (h : s.PortSound) (hp : s.port.phase ≠ .answering) : s.port.claim = none := by
  by_contra hne
  obtain ⟨k, hk⟩ := Option.ne_none_iff_exists'.mp hne
  obtain ⟨hanswers, -⟩ := h.claimed k hk
  simp only [Port.answersTake, Bool.and_eq_true, beq_iff_eq] at hanswers
  exact hp hanswers.1

/-- What events leave of the port and of what a claim names: the frame stays, a claim can only be cancelled, generations stay and no
slot leaves the list. -/
structure PortKept (s t : State) : Prop where
  frame : t.port = { s.port with claim := t.port.claim }
  claim : ∀ k, t.port.claim = some k → s.port.claim = some k
  generations : ∀ i, t.generationAt i = s.generationAt i
  joined : ∀ i ∈ s.joined, i ∈ t.joined

theorem PortKept.of_eq (hport : t.port = s.port) (hslots : t.slots = s.slots) (hjoined : t.joined = s.joined) : PortKept s t where
  frame := by rw [hport]
  claim _ hk := hport ▸ hk
  generations := State.generationAt_congr hslots
  joined i hi := hjoined ▸ hi

theorem PortKept.trans (h : PortKept s t) (k : PortKept t u) : PortKept s u where
  frame := by rw [k.frame, h.frame]
  claim c hc := h.claim c (k.claim c hc)
  generations i := (k.generations i).trans (h.generations i)
  joined i hi := k.joined i (h.joined i hi)

theorem PortKept.judge (s : State) (f : SlotId → Watch → Judgement) : PortKept s (s.judge f) where
  frame := rfl
  claim _ hk := (Option.filter_eq_some_iff.mp hk).1
  generations := State.generationAt_judge s f
  joined _ hi := List.mem_append_left _ hi

theorem Event.portKept (he : Event s t) : PortKept s t := by
  cases he with
  | arrival c v faulted _ =>
    have hentry : PortKept s (s.setEntry c (s.channels[c].arrive v faulted)) := .of_eq rfl rfl rfl
    exact hentry.trans (.judge _ _)
  | tick => exact .judge s _
  | lapse i => exact .judge s _
  | _ => exact .of_eq rfl rfl rfl

theorem Events.portKept (he : Events s t) : PortKept s t :=
  he.induction (.of_eq rfl rfl rfl) fun _ _ hstep hk => hk.trans hstep.portKept

theorem State.PortSound.of_kept (h : s.PortSound) (hk : PortKept s t) : t.PortSound where
  idle := by rw [hk.frame]; exact h.idle
  receiving := by rw [hk.frame]; exact h.receiving
  answering := by rw [hk.frame]; exact h.answering
  silent := by rw [hk.frame]; exact h.silent
  claimed c hc := by
    obtain ⟨hanswers, hgen, hmem⟩ := h.claimed c (hk.claim c hc)
    refine ⟨?_, (hk.generations _).trans hgen, hk.joined _ hmem⟩
    rw [hk.frame]
    exact hanswers

theorem State.PortSound.frame (h : s.PortSound) {p : Port} (hp : FrameMove s p) : State.PortSound { s with port := p } := by
  have noClaim : s.port.phase ≠ .answering → ∀ k, s.port.claim ≠ some k := fun hne k hk => by
    rw [h.claim_none hne] at hk
    cases hk
  cases hp with
  | begun hi _ => exact ⟨nofun, fun _ => ⟨⟨_, rfl⟩, .inl rfl⟩, nofun, nofun, fun k hk => absurd hk (noClaim (by simp [hi]) k)⟩
  | begunHeld hi _ => exact ⟨nofun, nofun, nofun, fun _ => rfl, fun k hk => absurd hk (noClaim (by simp [hi]) k)⟩
  | ended => exact ⟨fun _ => ⟨rfl, rfl⟩, nofun, nofun, nofun, nofun⟩
  | counted b hr hl =>
    refine ⟨fun hi => ?_, fun _ => ⟨⟨_, rfl⟩, .inr hl⟩, fun ha => ?_, fun hs => ?_,
      fun k hk => absurd hk (noClaim (by simp [hr]) k)⟩
    · cases hr.symm.trans hi
    · cases hr.symm.trans ha
    · rcases hs with hs | hs <;> cases hr.symm.trans hs
  | finished ha hr =>
    refine ⟨nofun, nofun, nofun, fun _ => rfl, fun k hk => ?_⟩
    obtain ⟨hanswers, -⟩ := h.claimed k hk
    simp only [Port.answersTake, Bool.and_eq_true, beq_iff_eq] at hanswers
    exact absurd hanswers.2 hr

/-- The claim that NOTICE-TAKE records names a slot of its generation in the pending list (R61). -/
theorem State.newClaim_names {k : TakeClaim} (hk : s.newClaim = some k) :
    s.generationAt k.slot = k.generation ∧ k.slot ∈ s.joined := by
  obtain ⟨⟨i, w, n⟩, hhead, rfl⟩ := Option.map_eq_some_iff.mp hk
  refine ⟨rfl, ?_⟩
  unfold State.head at hhead
  split at hhead
  · cases hhead
  · next hl =>
    split at hhead
    · cases hhead
    · obtain ⟨m, -, hm⟩ := Option.map_eq_some_iff.mp hhead
      cases hm
      exact State.mem_joined_of_pendingList (by rw [hl]; exact List.mem_cons_self)

/-- No effect but NOTICE-TAKE's touches the claim. -/
theorem Effect.claim {c : Instr} (he : Effect c s u) :
    u.port.claim = s.port.claim ∨ (c = .noticeTake ∧ u = { s with port := { s.port with claim := s.newClaim } }) := by
  cases he with
  | claimed hc => exact .inr ⟨hc, rfl⟩
  | configured k on edge =>
    refine .inl ?_
    unfold State.configure
    split <;> rfl
  | _ => exact .inl rfl

/-- A request that is taken leaves a sound port: only NOTICE-TAKE's frame has a claim. -/
theorem State.PortSound.taken (h : s.PortSound) {c : Instr} {a : Answer} (ha : s.port.awaits c.requestBytes = true)
    (hu : u = s ∨ Effect c s u ∨ Events s u) : (u.answer c.requestBytes a).PortSound := by
  have hnone : s.port.claim = none := h.claim_none (by simp [Port.awaits_receiving ha])
  have answered : (∀ k, u.port.claim = some k →
      c = .noticeTake ∧ u.generationAt k.slot = k.generation ∧ k.slot ∈ u.joined) → (u.answer c.requestBytes a).PortSound :=
    fun hclaim => ⟨nofun, nofun, fun _ => ⟨_, rfl⟩, nofun, fun k hk => by
      obtain ⟨rfl, hnames⟩ := hclaim k hk
      exact ⟨rfl, hnames⟩⟩
  refine answered fun k hk => ?_
  obtain rfl | hu | hu := hu
  · rw [hnone] at hk
    cases hk
  · obtain hc | ⟨hc, rfl⟩ := hu.claim
    · rw [hc, hnone] at hk
      cases hk
    · exact ⟨hc, State.newClaim_names hk⟩
  · rw [hu.portKept.claim k hk] at hnone
    cases hnone

theorem Port.reset_cases (p : Port) :
    p.reset = State.reset.port ∨ p.reset = { State.reset.port with phase := .held, miso := .zero } := by
  unfold Port.reset
  split
  · exact .inl rfl
  · exact .inr rfl

theorem Move.portSound (hm : Move s t) (h : s.PortSound) : t.PortSound := by
  cases hm with
  | events he => exact h.of_kept he.portKept
  | frame p hp => exact h.frame hp
  | taken c u a ha hu => exact h.taken ha hu
  | removed _ => exact ⟨nofun, nofun, nofun, fun _ => rfl, nofun⟩
  | reset cause ht =>
    cases ht
    rcases s.port.reset_cases with hp | hp <;>
      exact ⟨by simp [hp, State.reset], by simp [hp, State.reset], by simp [hp, State.reset], by simp [hp, State.reset],
        by simp [hp, State.reset]⟩

end PortSound

/-- Settles O16: every move of a command keeps the port sound (`Move.portSound`). -/
theorem stepKeepsPortSound : Obligations.StepKeepsPortSound := by
  unfold Obligations.StepKeepsPortSound
  intro s t h hstep
  obtain rfl | ⟨rest, hm⟩ := step_move hstep
  · exact h
  · exact hm.portSound (h.of_kept (.of_eq rfl rfl rfl))

/-! ## The hold at reset values -/

section HeldSound

variable {s t : State}

/-- The device at its reset values, but for the pins, the queue and the level of CSn (R185, R191). -/
def State.AtReset (s : State) : Prop :=
  s = { State.reset with port := s.port, rstnLow := s.rstnLow, supplyLow := s.supplyLow, pending := s.pending } ∧
    (s.port = State.reset.port ∨ s.port = { State.reset.port with phase := .held, miso := .zero })

theorem State.heldSound_iff : s.HeldSound ↔ (s.held = true → s.AtReset) := Iff.rfl

theorem State.AtReset.port (h : s.AtReset) {p : Port}
    (hp : p = State.reset.port ∨ p = { State.reset.port with phase := .held, miso := .zero }) :
    State.AtReset { s with port := p } :=
  ⟨by rw [h.1], hp⟩

theorem State.AtReset.rstnLow (h : s.AtReset) (low : Bool) : State.AtReset { s with rstnLow := low } := ⟨by rw [h.1], h.2⟩

theorem State.AtReset.queue (h : s.AtReset) (queue : List Instr) : State.AtReset { s with pending := queue } :=
  ⟨by rw [h.1], h.2⟩

/-- The commands that a held device answers to: chip select, another device reset, and the rise of RSTn (R185, R191, R200). -/
def ReachesHeld (c : Instr) : Prop := c = .csnFall ∨ c = .csnRise ∨ (∃ cause, c = .deviceReset cause) ∨ c = .rstnRise

/-- Every other command finds the held device at its reset values and changes nothing. -/
theorem State.AtReset.exec_unchanged (h : s.AtReset) (hh : s.held = true) {c : Instr} (hc : ¬ ReachesHeld c) :
    exec c s = .next s := by
  obtain ⟨hs, hp⟩ := h
  have hengine : s.engine = .idle := congrArg State.engine hs
  have href : s.reference = .off := congrArg State.reference hs
  have hclock : s.timeBase.countdown = none := congrArg (fun x => x.timeBase.countdown) hs
  have hreq : s.requested = none := congrArg State.requested hs
  have hedge : ∀ e, s.edges.get e = .stopped := fun e => by
    rw [show s.edges = _ from congrArg State.edges hs]
    cases e <;> rfl
  have hphase : s.port.phase = .idle ∨ s.port.phase = .held := hp.imp (congrArg Port.phase) (congrArg Port.phase)
  have hreceiving : s.port.phase ≠ .receiving := by rcases hphase with hx | hx <;> simp [hx]
  have hanswering : s.port.phase ≠ .answering := by rcases hphase with hx | hx <;> simp [hx]
  have hrange : ∀ m e, s.rangeEnd m e = s := fun m e => if_neg fun hx => by simp [hedge, EdgeRecord.stopped] at hx
  cases c
  case csnFall => exact absurd (.inl rfl) hc
  case csnRise => exact absurd (.inr (.inl rfl)) hc
  case deviceReset cause => exact absurd (.inr (.inr (.inl ⟨cause, rfl⟩))) hc
  case rstnRise => exact absurd (.inr (.inr (.inr rfl))) hc
  case noticeTakeRemoval => exact if_neg (by simp [Port.answersTake, hanswering])
  case lastResultByteEnd => exact if_neg fun hx => hanswering hx.1
  case requestByteArrival b => exact requestByteArrival_notReceiving hreceiving b
  case conversionCompletion r => exact if_neg (by simp [hengine])
  case settleEvent => exact if_neg (by simp [href])
  case trigFallingEdge => exact if_pos hh
  case activeEdge e n =>
    refine congrArg Host.Outcome.next ?_
    simp only [State.activeEdge, hedge, EdgeRecord.stopped]
  case oppositeEdge e n => exact congrArg Host.Outcome.next (if_neg fun hx => by simp [hedge, EdgeRecord.stopped] at hx)
  case overflow e => exact congrArg Host.Outcome.next (hrange _ e)
  case stall e => exact congrArg Host.Outcome.next (hrange _ e)
  case intervalExpiry => exact if_neg (by simp [hclock])
  case leaseExpiry i => exact if_neg (by simp [hclock])
  case windowEnd e =>
    refine congrArg Host.Outcome.next ?_
    simp only [State.deliverWindow, hedge, EdgeRecord.stopped]
  case modeChangeCarriedOut =>
    show execModeChangeCarriedOut s = _
    simp only [execModeChangeCarriedOut, hreq]
  all_goals exact exec_notReceiving (by exact List.cons_ne_nil _ _) hreceiving

/-- Device reset leaves the reset values, whatever holds the device then (R185, R191). -/
theorem State.AtReset.deviceReset {cause : ResetCause} (ht : execDeviceReset cause s = .next t) : t.AtReset := by
  cases ht
  exact ⟨rfl, s.port.reset_cases⟩

theorem State.AtReset.csnFall (h : s.AtReset) (hh : s.held = true) (ht : execCsnFall s = .next t) : t.AtReset := by
  unfold execCsnFall at ht
  rw [if_pos hh] at ht
  split_ifs at ht <;> cases ht
  · refine h.port (.inr ?_)
    rcases h.2 with hp | hp <;> rw [hp] <;> rfl
  · exact h

theorem State.AtReset.csnRise (h : s.AtReset) (ht : execCsnRise s = .next t) : t.AtReset := by
  unfold execCsnRise at ht
  split_ifs at ht <;> cases ht
  · exact h
  · refine h.port (.inl ?_)
    rcases h.2 with hp | hp <;> rw [hp] <;> rfl

/-- A command leaves a held device at its reset values. -/
theorem State.AtReset.exec (h : s.AtReset) (hh : s.held = true) {c : Instr} (ht : exec c s = .next t) : t.AtReset := by
  by_cases hc : ReachesHeld c
  · obtain rfl | rfl | ⟨cause, rfl⟩ | rfl := hc
    · exact h.csnFall hh ht
    · exact h.csnRise ht
    · exact .deviceReset ht
    · cases ht
      exact h.rstnLow false
  · rw [h.exec_unchanged hh hc] at ht
    cases ht
    exact h

/-- No event and no effect of a request pulls RSTn or the supply low. -/
theorem Event.held (he : Event s t) (ht : t.held = true) : s.held = true := by
  cases he with
  | released =>
    simp only [State.held, Bool.false_or] at ht
    simp [State.held, ht]
  | _ => exact ht

theorem Effect.held {c : Instr} (he : Effect c s t) (ht : t.held = true) : s.held = true := by
  cases he with
  | configured k on edge =>
    unfold State.configure at ht
    split at ht <;> exact ht
  | _ => exact ht

theorem Events.held (he : Events s t) : t.held = true → s.held = true :=
  he.induction (P := fun u => u.held = true → s.held = true) id fun _ _ hstep hk ht => hk (hstep.held ht)

/-- A device is held only by what held it before, or by a device reset. -/
theorem Move.held_or_reset (hm : Move s t) : (t.held = true → s.held = true) ∨ t.AtReset := by
  cases hm with
  | events he => exact .inl he.held
  | frame p _ => exact .inl id
  | taken c u a _ hu =>
    refine .inl fun ht => ?_
    obtain rfl | hu | hu := hu
    · exact ht
    · exact hu.held ht
    · exact hu.held ht
  | removed _ =>
    refine .inl fun ht => ?_
    have hrest := s.removeClaimed_rest
    exact (congrArg State.held hrest).symm.trans ht
  | reset cause ht => exact .inr (.deviceReset ht)

/-- A command keeps a held device at its reset values (R185, R200). -/
theorem exec_heldSound {c : Instr} (h : s.HeldSound) (hx : exec c s = .next t) : t.HeldSound := by
  rw [State.heldSound_iff] at h ⊢
  intro ht
  by_cases hh : s.held = true
  · exact (h hh).exec hh hx
  · rcases (exec_move hx).held_or_reset with hheld | hreset
    · exact absurd (hheld ht) hh
    · exact hreset

end HeldSound

/-- Settles O17: a held device stays at its reset values (`State.AtReset.exec`), and none but a device reset makes the device held
(`Move.held_or_reset`). -/
theorem stepKeepsHeldSound : Obligations.StepKeepsHeldSound := by
  unfold Obligations.StepKeepsHeldSound
  intro s t h hstep
  unfold step at hstep
  split at hstep
  · cases hstep
    exact h
  · refine exec_heldSound ?_ hstep
    exact fun hh => State.AtReset.queue (h hh) _

end Sys2Proof.Machine
end

section
/-! Every command answers a next state and leaves the queue; every request taken is answered at its length, and a refused one changes
nothing. -/

namespace Sys2Proof.Machine

/-! ## Every command answers -/

section Answers

variable {s t u : State}

theorem takeRequest_next (b : List Byte) (act : State → State × Answer) (s : State) : ∃ t, takeRequest b act s = .next t := by
  unfold takeRequest
  split_ifs <;> exact ⟨_, rfl⟩

theorem exec_request_next {c : Instr} (hb : c.requestBytes ≠ []) (s : State) : ∃ t, exec c s = .next t := by
  by_cases hw : c.wellFormed = true
  · rw [exec_request hw hb]
    exact takeRequest_next _ _ s
  · cases c
    case unknownCode code => exact ⟨s, if_neg hw⟩
    all_goals exact absurd rfl hw

theorem requestByteArrival_next (b : Byte) (s : State) : ∃ t, exec (.requestByteArrival b) s = .next t := by
  rcases requestByteArrival_cases b s with he | ⟨-, -, he⟩ | ⟨c, hb, -, -, he⟩
  · exact ⟨_, he⟩
  · exact ⟨_, he⟩
  · rw [he]
    exact exec_request_next (by simp [hb]) s

theorem conversionCompletion_next (r : BitVec 12) (s : State) : ∃ t, execConversionCompletion r s = .next t := by
  unfold execConversionCompletion
  dsimp only
  split_ifs
  · split
    · split_ifs <;> exact ⟨_, rfl⟩
    · exact ⟨_, rfl⟩
  · exact ⟨_, rfl⟩

theorem modeChangeCarriedOut_next (s : State) : ∃ t, execModeChangeCarriedOut s = .next t := by
  unfold execModeChangeCarriedOut
  split
  · exact ⟨_, rfl⟩
  · split_ifs <;> exact ⟨_, rfl⟩

/-- No command stops the block (log 16). -/
theorem exec_next (c : Instr) (s : State) : ∃ t, exec c s = .next t := by
  have ite_next : ∀ (p : Prop) [Decidable p] (a b : State),
      ∃ t, (if p then Host.Outcome.next a else .next b : StepOutcome) = .next t := fun p _ a b => by
    split_ifs <;> exact ⟨_, rfl⟩
  cases c
  case csnFall =>
    show ∃ t, execCsnFall s = .next t
    unfold execCsnFall
    split_ifs <;> exact ⟨_, rfl⟩
  case trigFallingEdge =>
    show ∃ t, execTrigFallingEdge s = .next t
    unfold execTrigFallingEdge
    split_ifs <;> exact ⟨_, rfl⟩
  case settleEvent =>
    show ∃ t, execSettleEvent s = .next t
    unfold execSettleEvent
    split_ifs <;> exact ⟨_, rfl⟩
  case csnRise => exact ite_next _ _ _
  case lastResultByteEnd => exact ite_next _ _ _
  case noticeTakeRemoval => exact ite_next _ _ _
  case intervalExpiry => exact ite_next _ _ _
  case leaseExpiry => exact ite_next _ _ _
  case requestByteArrival b => exact requestByteArrival_next b s
  case conversionCompletion r => exact conversionCompletion_next r s
  case modeChangeCarriedOut => exact modeChangeCarriedOut_next s
  case activeEdge | oppositeEdge | overflow | stall | windowEnd | deviceReset | rstnRise => exact ⟨_, rfl⟩
  all_goals exact exec_request_next (by exact List.cons_ne_nil _ _) s

theorem Event.pending (he : Event s t) : t.pending = s.pending := by cases he <;> rfl

theorem Events.pending (he : Events s t) : t.pending = s.pending := 
  he.induction (P := fun u => u.pending = s.pending) rfl fun _ _ hstep hp => hstep.pending.trans hp

theorem Effect.pending {c : Instr} (he : Effect c s t) : t.pending = s.pending := by
  cases he with
  | configured k on edge =>
    unfold State.configure
    split <;> rfl
  | _ => rfl

theorem Move.pending (hm : Move s t) : t.pending = s.pending := by
  cases hm with
  | events he => exact he.pending
  | frame p _ => rfl
  | taken c u a _ hu =>
    obtain rfl | hu | hu := hu
    · rfl
    · exact hu.pending
    · exact hu.pending
  | removed _ =>
    have hrest := congrArg State.pending s.removeClaimed_rest
    exact hrest
  | reset cause ht =>
    cases ht
    rfl

end Answers

/-- Settles O2, from `exec_next` and `Move.pending`. -/
theorem everyCommandAnswersNext : Obligations.EveryCommandAnswersNext := by
  unfold Obligations.EveryCommandAnswersNext
  intro c s
  obtain ⟨t, ht⟩ := exec_next c s
  exact ⟨t, ht, (exec_move ht).pending⟩

/-- Settles O1: the two cases are the branches of `step`. -/
theorem stepTakesFrontOfQueue : Obligations.StepTakesFrontOfQueue := by
  unfold Obligations.StepTakesFrontOfQueue
  refine ⟨fun s c rest hq => ?_, fun s hq => ?_⟩
  · simp only [step, hq]
  · simp only [step, hq]

/-! ## The length of a result, and refusals -/

section Results

variable {c : Instr} {s t : State}

theorem requestBytes_of_awaits (h : s.port.awaits c.requestBytes = true) : ∃ code rest, c.requestBytes = code :: rest := by
  obtain ⟨-, rest, hne, hb⟩ := (Port.awaits_iff _ _).mp h
  exact List.exists_cons_of_ne_nil (by simp [hb, hne])

theorem dataBytes_eq {code : Byte} {rest : List Byte} (hb : c.requestBytes = code :: rest) :
    dataBytes c = (requestRow code).elim 0 RequestRow.data := by
  rw [dataBytes, hb]
  rfl

theorem outcomeByte_injective {a b : OutcomeCode} (h : outcomeByte a = outcomeByte b) : a = b := by
  revert h
  cases a <;> cases b <;> decide

/-- A request that is refused leaves the state as it was but for the answer (R195). -/
theorem requestAct_refused (hw : c.wellFormed = true) (hb : c.requestBytes ≠ [])
    (ho : ¬ (requestAct c s).2.outcome.Acts) : (requestAct c s).1 = s :=
  (requestAct_served hw hb s).effect.resolve_right fun h => ho h.1

end Results

/-- Settles O3: a request taken is answered (`exec_awaits`), and with as many data bytes as the table gives (`requestAct_served`). -/
theorem resultLengthIsFixed : Obligations.ResultLengthIsFixed := by
  unfold Obligations.ResultLengthIsFixed
  intro c s hw ha
  obtain ⟨code, rest, hb⟩ := requestBytes_of_awaits ha
  have hlength := (requestAct_served hw (by simp [hb]) s).length
  refine ⟨_, (requestAct c s).2.bytes, code, rest, exec_awaits hw ha, hb, rfl, rfl, ?_⟩
  rw [Answer.bytes, List.length_cons, hlength, dataBytes_eq hb, Nat.add_comm]
  cases requestRow code <;> rfl

/-- Settles O4: the outcome is none of those that may act, so the action changed nothing (`requestAct_refused`). -/
theorem refusedRequestsChangeNothing : Obligations.RefusedRequestsChangeNothing := by
  unfold Obligations.RefusedRequestsChangeNothing
  intro c s t b data ha hx hmiso hok haccepted hempty
  by_cases hw : c.wellFormed = true
  · rw [exec_awaits hw ha] at hx
    cases hx
    obtain ⟨code, rest, hb⟩ := requestBytes_of_awaits ha
    have hbyte : outcomeByte (requestAct c s).2.outcome = b := (List.cons.inj (Miso.result.inj hmiso)).1
    have hsame : (requestAct c s).1 = s := by
      refine requestAct_refused hw (by simp [hb]) ?_
      rintro (ho | ho | ho) <;> rw [ho] at hbyte
      · exact hok hbyte.symm
      · exact haccepted hbyte.symm
      · exact hempty hbyte.symm
    rw [hsame]
    exact ⟨rfl, rfl, rfl⟩
  · cases c
    case unknownCode code =>
      rw [show exec (.unknownCode code) s = .next s from if_neg hw] at hx
      cases hx
      exact ⟨rfl, rfl, rfl⟩
    all_goals exact absurd rfl hw

end Sys2Proof.Machine
end

section
/-! What becomes of pending notices and of a standing take claim (R53, R54, R62). -/

namespace Sys2Proof.Machine

section Notices

variable {s t u : State}

/-- A notice `m` may stand where notice `n` stood: it is the same, or a posting has replaced one that was no EXPIRY (R53, R54). -/
def Notice.MayBecome (n m : Notice) : Prop := (m = n ∨ m.coalesced = true) ∧ (n.kind = .expiry → m = n)

theorem Notice.MayBecome.refl (n : Notice) : n.MayBecome n := ⟨.inl rfl, fun _ => rfl⟩

theorem Notice.MayBecome.trans {n m k : Notice} (h : n.MayBecome m) (h' : m.MayBecome k) : n.MayBecome k := by
  refine ⟨?_, fun hn => ?_⟩
  · rcases h'.1 with rfl | hk
    · exact h.1
    · exact .inr hk
  · have hmn := h.2 hn
    subst hmn
    exact h'.2 hn

/-- Every watch with a notice keeps one: the same, or one that has replaced it. -/
def NoticesGrow (s t : State) : Prop :=
  ∀ i w n, s.watchAt i = some w → w.notice = some n → ∃ u m, t.watchAt i = some u ∧ u.notice = some m ∧ n.MayBecome m

/-- Every notice was there before, in the same slot. -/
def NoticesStay (s t : State) : Prop :=
  ∀ i u m, t.watchAt i = some u → u.notice = some m → ∃ w, s.watchAt i = some w ∧ w.notice = some m

theorem NoticesGrow.of_slots (h : t.slots = s.slots) : NoticesGrow s t :=
  fun i w n hw hn => ⟨w, n, (State.watchAt_congr h i).trans hw, hn, .refl n⟩

theorem NoticesGrow.trans (h : NoticesGrow s t) (k : NoticesGrow t u) : NoticesGrow s u := fun i w n hw hn => by
  obtain ⟨x, m, hx, hm, hnm⟩ := h i w n hw hn
  obtain ⟨y, l, hy, hl, hml⟩ := k i x m hx hm
  exact ⟨y, l, hy, hl, hnm.trans hml⟩

/-- An event at the watch table that posts to no EXPIRED watch lets notices grow (R52 to R54). -/
theorem NoticesGrow.judge (h : s.TableSound) {f : SlotId → Watch → Judgement}
    (hf : ∀ i w, (f i w).watch.notice = w.notice ∧ (w.state = .expired → (f i w).posting = none)) :
    NoticesGrow s (s.judge f) := fun i w n hw hn => by
  obtain ⟨hkeeps, hexpired⟩ := hf i w
  have hj : (s.judge f).watchAt i = some (f i w).posted := by rw [State.watchAt_judge, hw, Option.map_some]
  cases hp : (f i w).posting with
  | none =>
    refine ⟨_, n, hj, ?_, .refl n⟩
    simp only [Judgement.posted, hp, hkeeps, hn]
  | some p =>
    refine ⟨_, { kind := p.1, value := p.2, coalesced := true }, hj, ?_, .inr rfl, fun hk => ?_⟩
    · simp only [Judgement.posted, hp, hkeeps, hn, Option.isSome_some]
    · have hstate := (h.watches i w hw).expiredNotice.mpr (by rw [hn, Option.map_some, hk])
      rw [hexpired hstate] at hp
      cases hp

theorem evaluate_expired (c : ChannelId) (v : Word) (faulted : Bool) {w : Watch} (h : w.state = .expired) :
    evaluate c v faulted w = .unchanged w :=
  if_neg fun hin => ((Watch.inService_iff w).mp hin.2).2 h

theorem Watch.tick_expired {w : Watch} (h : w.state = .expired) : w.tick = .unchanged w := by
  rw [Watch.tick_eq, if_pos (.inr h)]

theorem Event.noticesGrow (he : Event s t) (h : s.TableSound) : NoticesGrow s t := by
  cases he with
  | arrival c v faulted _ =>
    have hentry : (s.setEntry c (s.channels[c].arrive v faulted)).TableSound := h.of_eq rfl rfl rfl
    exact NoticesGrow.judge hentry fun _ w =>
      ⟨(evaluate_keeps c v faulted w).2, fun hw => by rw [evaluate_expired c v faulted hw]; rfl⟩
  | tick => exact .judge h fun _ w => ⟨w.tick_keeps.2, fun hw => by rw [Watch.tick_expired hw]; rfl⟩
  | lapse i =>
    refine .judge h fun j w => ⟨by split_ifs <;> rfl, fun hw => ?_⟩
    rw [if_neg]
    · rfl
    · rw [Watch.counting_eq]
      simp [hw]
  | _ => exact .of_slots rfl

theorem Events.noticesGrow (he : Events s t) (h : s.TableSound) : NoticesGrow s t :=
  (he.induction (P := fun u => NoticesGrow s u ∧ u.TableSound) ⟨.of_slots rfl, h⟩ fun _ _ hstep hk =>
    ⟨hk.1.trans (hstep.noticesGrow hk.2), hstep.tableSound hk.2⟩).1

theorem NoticesStay.of_slots (h : t.slots = s.slots) : NoticesStay s t :=
  fun i u _ hu hm => ⟨u, (State.watchAt_congr h i).symm.trans hu, hm⟩

theorem NoticesStay.mapWatches {f : SlotId → Watch → Watch}
    (hf : ∀ i w, s.watchAt i = some w → (f i w).notice = w.notice ∨ (f i w).notice = none) : NoticesStay s (s.mapWatches f) :=
  fun i u m hu hm => by
    rw [State.watchAt_mapWatches] at hu
    obtain ⟨w, hw, rfl⟩ := Option.map_eq_some_iff.mp hu
    rcases hf i w hw with hn | hn
    · exact ⟨w, hw, hn.symm.trans hm⟩
    · cases hn.symm.trans hm

theorem NoticesStay.freeWatches (p : SlotId → Watch → Bool) : NoticesStay s (s.freeWatches p) := fun i u m hu hm => by
  rw [State.watchAt_freeWatches] at hu
  split_ifs at hu
  exact ⟨u, hu, hm⟩

theorem NoticesStay.removeClaimed : NoticesStay s s.removeClaimed := by
  unfold State.removeClaimed
  split
  · exact .of_slots rfl
  · split_ifs
    · next k _ _ =>
      cases hw : s.watchAt k.slot with
      | none =>
        rw [State.removeNotice_free hw]
        exact .of_slots rfl
      | some w =>
        by_cases he : w.state = .expired
        · rw [State.removeNotice_expired hw he]
          exact .freeWatches _
        · rw [State.removeNotice_live hw he]
          exact NoticesStay.mapWatches fun j x _ => by split_ifs <;> [exact .inr rfl; exact .inl rfl]
    · exact .of_slots rfl

theorem Effect.noticesStay {c : Instr} (he : Effect c s t) : NoticesStay s t := by
  cases he with
  | handled f hf => exact .mapWatches fun i w hw => .inl (hf i w hw).keeps.2
  | amended i w hw =>
    refine NoticesStay.mapWatches fun j x hx => ?_
    split_ifs with hj
    · subst hj
      rw [hw] at hx
      cases hx
      exact .inl (w.amended_keeps _).2
    · exact .inl rfl
  | created i =>
    intro j u m hu hm
    rw [State.watchAt_fillSlot] at hu
    split_ifs at hu
    · cases hu
      cases hm
    · exact ⟨u, hu, hm⟩
  | freed p => exact .freeWatches p
  | tableReset => exact NoticesStay.freeWatches fun _ _ => true
  | configured k on edge => exact .of_slots (State.configure_slots s k on edge)
  | _ => exact .of_slots rfl

/-- Under a command notices grow, or none is new. -/
theorem Move.notices (hm : Move s t) (h : s.TableSound) : NoticesGrow s t ∨ NoticesStay s t := by
  cases hm with
  | events he => exact .inl (he.noticesGrow h)
  | frame p _ => exact .inl (.of_slots rfl)
  | taken c u a _ hu =>
    obtain rfl | hu | hu := hu
    · exact .inl (.of_slots rfl)
    · exact .inr hu.noticesStay
    · exact .inl (hu.noticesGrow h)
  | removed _ => exact .inr (NoticesStay.removeClaimed (s := s))
  | reset cause ht =>
    cases ht
    refine .inr fun i u m hu => ?_
    rw [show State.watchAt _ i = none from by simp [State.watchAt, State.reset, Slot.atReset]] at hu
    cases hu

end Notices

/-- Settles O25: where notices grow, the one there is what the old may become; where none is new, it is the old (`Move.notices`). -/
theorem replacedNoticeIsCoalesced : Obligations.ReplacedNoticeIsCoalesced := by
  unfold Obligations.ReplacedNoticeIsCoalesced
  intro c s t i w u n m h hx hw hn hu hm
  rcases (exec_move hx).notices h with hgrow | hstay
  · obtain ⟨x, l, hxi, hl, hnl⟩ := hgrow i w n hw hn
    rw [hu] at hxi
    cases hxi
    rw [hm] at hl
    cases hl
    exact hnl
  · obtain ⟨x, hxi, hl⟩ := hstay i u m hu hm
    rw [hw] at hxi
    cases hxi
    rw [hn] at hl
    cases hl
    exact Notice.MayBecome.refl n

/-! ## A standing take claim -/

section Claim

variable {s t u : State}

/-- The claim is cancelled, or it stands and the notice it names is as it was (R62). -/
def ClaimHeld (s t : State) : Prop :=
  t.port.claim = none ∨
    (t.port.claim = s.port.claim ∧
      ∀ k, s.port.claim = some k → (t.watchAt k.slot).map (·.notice) = (s.watchAt k.slot).map (·.notice))

theorem ClaimHeld.of_eq (hport : t.port.claim = s.port.claim) (hslots : t.slots = s.slots) : ClaimHeld s t :=
  .inr ⟨hport, fun k _ => by rw [State.watchAt_congr hslots]⟩

theorem ClaimHeld.trans (h : ClaimHeld s t) (k : ClaimHeld t u) : ClaimHeld s u := by
  rcases k with hk | ⟨hk, hkn⟩
  · exact .inl hk
  · rcases h with h | ⟨h, hn⟩
    · exact .inl (hk.trans h)
    · exact .inr ⟨hk.trans h, fun c hc => (hkn c (h.trans hc)).trans (hn c hc)⟩

/-- A posting to the claimed watch cancels the claim, so a claim that stands names an unchanged notice (R62). -/
theorem ClaimHeld.judge {f : SlotId → Watch → Judgement} (hf : ∀ i w, (f i w).watch.notice = w.notice) :
    ClaimHeld s (s.judge f) := by
  cases hc : s.port.claim with
  | none => exact .inl (by rw [(s.judge_judged f).claim, hc]; rfl)
  | some k =>
    cases hp : s.posts f k.slot with
    | true => exact .inl (show (s.port.claim.filter _) = none by rw [hc]; simp [hp])
    | false =>
      refine .inr ⟨show (s.port.claim.filter _) = s.port.claim by rw [hc]; simp [hp], fun l hl => ?_⟩
      cases hc.symm.trans hl
      rw [State.watchAt_judge]
      cases hw : s.watchAt k.slot with
      | none => rfl
      | some w =>
        have hnone : (f k.slot w).posting = none := by simpa [State.posts, State.selects, hw] using hp
        simp only [Option.map_some, Judgement.posted, hnone, hf]

theorem Event.claimHeld (he : Event s t) : ClaimHeld s t := by
  cases he with
  | arrival c v faulted _ =>
    have hentry : ClaimHeld s (s.setEntry c (s.channels[c].arrive v faulted)) := .of_eq rfl rfl
    exact hentry.trans (.judge fun _ w => (evaluate_keeps c v faulted w).2)
  | tick => exact .judge fun _ w => w.tick_keeps.2
  | lapse i => exact .judge fun _ w => by split_ifs <;> rfl
  | _ => exact .of_eq rfl rfl

theorem Events.claimHeld (he : Events s t) : ClaimHeld s t :=
  he.induction (.of_eq rfl rfl) fun _ _ hstep hk => hk.trans hstep.claimHeld

/-- Under any command a claim is cancelled or holds its notice; no request is taken while a claim stands. -/
theorem Move.claimHeld (hm : Move s t) (h : s.PortSound) (hc : s.port.claim ≠ none) : ClaimHeld s t := by
  cases hm with
  | events he => exact he.claimHeld
  | frame p hp =>
    cases hp with
    | ended => exact .inl rfl
    | _ => exact .of_eq rfl rfl
  | taken c u a ha _ => exact absurd (h.claim_none (by simp [Port.awaits_receiving ha])) hc
  | removed _ => exact .inl rfl
  | reset cause ht =>
    cases ht
    refine .inl ?_
    rcases s.port.reset_cases with hp | hp <;> exact congrArg Port.claim hp

end Claim

/-- Settles O28, from `Move.claimHeld`. -/
theorem standingClaimKeepsNotice : Obligations.StandingClaimKeepsNotice := by
  unfold Obligations.StandingClaimKeepsNotice
  intro c s t k m h hx hk hm
  rcases (exec_move hx).claimHeld h (by simp [hk]) with hnone | ⟨hsame, hnotice⟩
  · rw [hm] at hnone
    cases hnone
  · rw [hm, hk] at hsame
    cases hsame
    exact ⟨rfl, hnotice k hk⟩

end Sys2Proof.Machine
end

section
/-! The frame of the command port: its phases, and a request byte by byte (R189 to R196). -/

namespace Sys2Proof.Machine

/-! ## Phases -/

section Phases

variable {s : State}

theorem csnFall_receiving (hp : s.port.phase = .idle) (hh : s.held = false) :
    exec .csnFall s =
      .next { s with port := { s.port with phase := .receiving, received := [], miso := .summary s.summaryByte } } :=
  (if_pos hp).trans (if_neg (by simp [hh]))

theorem csnFall_held (hp : s.port.phase = .idle) (hh : s.held = true) :
    exec .csnFall s = .next { s with port := { s.port with phase := .held, received := [], miso := .zero } } :=
  (if_pos hp).trans (if_pos hh)

/-- A byte that is not the last request byte is counted, and the summary byte of the next byte is fixed (R189, R194). -/
theorem requestByteArrival_counted {b code : Byte} {rest : List Byte} (hp : s.port.phase = .receiving)
    (hb : s.port.received ++ [b] = code :: rest) (hl : (code :: rest).length < requestLength code) :
    exec (.requestByteArrival b) s =
      .next { s with port := { s.port with received := code :: rest, miso := .summary s.summaryByte } } := by
  show execRequestByteArrival b s = _
  unfold execRequestByteArrival
  dsimp only
  rw [hb, if_pos hp]
  exact if_pos hl

end Phases

/-- Settles O5, phase by phase; requests and bytes outside RECEIVING are ignored by `exec_notReceiving` and
`requestByteArrival_notReceiving`. -/
theorem framePhasesMove : Obligations.FramePhasesMove := by
  unfold Obligations.FramePhasesMove
  exact ⟨fun c s hb hp => exec_notReceiving hb hp, fun s b hp => requestByteArrival_notReceiving hp b,
    fun s hp hh => csnFall_receiving hp hh, fun s hp hh => csnFall_held hp hh, fun s hp => if_neg hp,
    fun s b code rest hp hb hl => requestByteArrival_counted hp hb hl,
    fun s hp hr => lastResultByteEnd_trailing hp hr, fun s hr => if_neg fun h => h.2 hr⟩

/-- Settles O8: recognition by `requestOf_requestBytes` and `requestOf_some`, the last byte by `requestByteArrival_last`; the tables
are read off the definitions. -/
theorem commandPortRecognizesRequests : Obligations.CommandPortRecognizesRequests := by
  unfold Obligations.CommandPortRecognizesRequests
  exact ⟨fun c hw hb => requestOf_requestBytes hw hb, fun bytes c h => requestOf_some h,
    fun s b c hw hp hb => requestByteArrival_last hw hp hb, by decide, fun _ => ⟨rfl, rfl⟩, rfl, fun _ _ => rfl, fun _ => rfl,
    fun _ _ => rfl, fun _ _ _ _ _ _ _ _ => ⟨rfl, rfl, rfl⟩⟩

/-! ## Changes of mode -/

section ChangeMode

variable {s : State}

/-- With no conversion of a run in flight the change is carried out at once (R180, R181). -/
theorem changeMode_enters (h : ¬ (s.mode = .run ∧ s.engine = .converting)) (m : Mode) :
    changeMode m s = (s.enterMode m, { outcome := .ok, data := (s.enterMode m).modeBytes }) := by
  simp only [changeMode, if_neg h]

/-- A change to RUN never waits (R180). -/
theorem changeMode_run :
    changeMode .run s = (s.enterMode .run, { outcome := .ok, data := (s.enterMode .run).modeBytes }) := by
  simp only [changeMode, ite_self]

/-- Out of RUN with a conversion in flight the change is recorded as pending (R182). -/
theorem changeMode_waits (h : s.mode = .run ∧ s.engine = .converting) (p : PendingTarget) :
    changeMode p.toMode s =
      ({ s with requested := some p }, { outcome := .accepted, data := State.modeBytes { s with requested := some p } }) := by
  cases p <;> simp only [changeMode, PendingTarget.toMode, if_pos h]

end ChangeMode

/-! ## Requests do not look at the bytes received or at MISO -/

/-- The state with other bytes received and another value on MISO. -/
def State.reframe (received : List Byte) (miso : Miso) (s : State) : State :=
  { s with port := { s.port with received := received, miso := miso } }

/-- An action whose effect and answer do not depend on the bytes received or on MISO, and which leaves both. -/
def Reframes (act : State → State × Answer) : Prop :=
  ∀ (s : State) (b : List Byte) (m : Miso), act (s.reframe b m) = ((act s).1.reframe b m, (act s).2)

section Reframe

variable (s : State) (b : List Byte) (m : Miso)

/-- What an action makes of a reframed state when it makes `r` of the state itself. -/
def Reframed (b : List Byte) (m : Miso) (r' r : State × Answer) : Prop := r' = (r.1.reframe b m, r.2)

variable {b m} in
theorem Reframed.ite {p : Prop} [Decidable p] {x y x' y' : State × Answer} (hx : Reframed b m x' x) (hy : Reframed b m y' y) :
    Reframed b m (if p then x' else y') (if p then x else y) := by
  split_ifs
  · exact hx
  · exact hy

@[simp] theorem State.reframe_compose : (s.reframe b m).compose = s.compose := rfl
@[simp] theorem State.reframe_cursor : (s.reframe b m).port.cursor = s.port.cursor := rfl
@[simp] theorem State.reframe_edges : (s.reframe b m).edges = s.edges := rfl
@[simp] theorem State.reframe_watchAt (i : SlotId) : (s.reframe b m).watchAt i = s.watchAt i := rfl
@[simp] theorem State.reframe_selects (p : SlotId → Watch → Bool) (i : SlotId) : (s.reframe b m).selects p i = s.selects p i := rfl
@[simp] theorem State.reframe_lookup (handle : Word) : (s.reframe b m).lookup handle = s.lookup handle := rfl
@[simp] theorem State.reframe_failingField : (s.reframe b m).failingField = s.failingField := rfl
@[simp] theorem State.reframe_lowestFree : (s.reframe b m).lowestFree = s.lowestFree := rfl

theorem composeWrite_reframes (field : Byte) (value : Word) : Reframes (composeWrite field value) := fun s b m => by
  simp only [composeWrite, State.reframe_compose]
  split <;> rfl

theorem composeRead_reframes (field : Byte) : Reframes (composeRead field) := fun s b m => by
  simp only [composeRead, State.reframe_compose]
  split <;> rfl

theorem load_reframes (handle : Word) : Reframes (load handle) := fun s b m => by
  simp only [load, State.reframe_lookup]
  split <;> rfl

theorem create_reframes : Reframes create := fun s b m => by
  simp only [create, State.reframe_failingField, State.reframe_lowestFree]
  split
  · rfl
  · split <;> rfl

theorem amend_reframes (handle : Word) : Reframes (amend handle) := fun s b m => by
  simp only [amend, State.reframe_lookup, State.reframe_failingField]
  split
  · rfl
  · split_ifs
    · rfl
    · split <;> rfl

theorem retire_reframes (handle : Word) : Reframes (retire handle) := fun s b m => by
  simp only [retire, State.reframe_lookup]
  split <;> rfl

theorem renew_reframes (handle : Word) : Reframes (renew handle) := fun s b m => by
  simp only [renew, State.reframe_lookup]
  split
  · rfl
  · split_ifs <;> rfl

theorem suspend_reframes (handle : Word) : Reframes (suspend handle) := fun s b m => by
  simp only [suspend, State.reframe_lookup]
  split
  · rfl
  · split_ifs <;> rfl

theorem resume_reframes (handle : Word) : Reframes (resume handle) := fun s b m => by
  simp only [resume, State.reframe_lookup]
  split
  · rfl
  · split_ifs <;> rfl

theorem watchStatus_reframes (handle : Word) : Reframes (watchStatus handle) := fun s b m => by
  simp only [watchStatus, State.reframe_lookup]
  split <;> rfl

theorem tagged_reframes (tag mask : Word) (n : Nat) {act : BitVec 11 → BitVec 11 → State → State × Answer}
    (h : ∀ t k, Reframes (act t k)) : Reframes (tagged tag mask n act) := fun s b m => by
  unfold tagged
  split
  · exact h _ _ s b m
  · rfl

theorem walkStep_reframes (q : Search) : Reframes (walkStep q) := fun s b m => by
  simp only [walkStep, State.reframe_selects, State.reframe_watchAt]
  split <;> rfl

theorem findFirst_reframes (tag mask : Word) : Reframes (findFirst tag mask) := fun s b m => by
  unfold findFirst
  split
  · exact walkStep_reframes _ s b m
  · rfl

theorem findNext_reframes : Reframes findNext := fun s b m => by
  simp only [findNext, State.reframe_cursor]
  split
  · rfl
  · exact walkStep_reframes _ s b m

theorem notifySet_reframes (enable threshold : Byte) : Reframes (notifySet enable threshold) := fun s b m => by
  unfold notifySet
  split <;> rfl

theorem channelSetChecked_reframes (k : ChannelId) (on : Bool) (edge : Option (EdgeInput × EdgeSettings)) :
    Reframes (channelSetChecked k on edge) := fun s b m => by
  obtain _ | ⟨e, t⟩ := edge <;> exact Reframed.ite rfl (.ite rfl rfl)

theorem channelSet_reframes (channel enabled edgeMode polarity rate gate : Byte) :
    Reframes (channelSet channel enabled edgeMode polarity rate gate) := fun s b m => by
  unfold channelSet
  split
  · rfl
  · split
    · exact channelSetChecked_reframes _ _ _ s b m
    · rfl

theorem channelGet_reframes (channel : Byte) : Reframes (channelGet channel) := fun s b m => by
  unfold channelGet
  split <;> rfl

theorem channelRead_reframes (channel : Byte) : Reframes (channelRead channel) := fun s b m => by
  unfold channelRead
  split <;> rfl

theorem planSet_reframes (mode single : Byte) (members priorities : Word) (trigger resolution : Byte) :
    Reframes (planSet mode single members priorities trigger resolution) := fun s b m => by
  unfold planSet
  split
  · rfl
  · exact Reframed.ite rfl (.ite rfl rfl)

theorem start_reframes : Reframes start := fun _ _ _ =>
  Reframed.ite rfl (.ite rfl (.ite rfl (.ite rfl (.ite rfl rfl))))

theorem stop_reframes : Reframes stop := fun _ _ _ => Reframed.ite rfl rfl

theorem refOff_reframes : Reframes refOff := fun _ _ _ => Reframed.ite rfl rfl

theorem State.deliverWindow_reframe (e : EdgeInput) :
    (s.reframe b m).deliverWindow e = (s.deliverWindow e).reframe b m := by
  simp only [State.deliverWindow, State.reframe_edges]
  split <;> rfl

theorem State.enterMode_reframe (target : Mode) :
    (s.reframe b m).enterMode target = (s.enterMode target).reframe b m := by
  have hdeliver : (s.reframe b m).deliverWindows = s.deliverWindows.reframe b m := by
    simp only [State.deliverWindows, State.deliverWindow_reframe]
  rw [State.enterMode_eq, State.enterMode_eq, hdeliver]
  rfl

theorem changeMode_reframes (target : Mode) : Reframes (changeMode target) := fun s b m => by
  by_cases h : s.mode = .run ∧ s.engine = .converting
  · have hwaits : ∀ p : PendingTarget, Reframed b m (changeMode p.toMode (s.reframe b m)) (changeMode p.toMode s) := fun p => by
      rw [changeMode_waits (s := s.reframe b m) h, changeMode_waits h]
      rfl
    cases target with
    | config => exact hwaits .config
    | hold => exact hwaits .hold
    | run => rw [changeMode_run, changeMode_run, State.enterMode_reframe]; rfl
  · rw [changeMode_enters (s := s.reframe b m) h, changeMode_enters h, State.enterMode_reframe]
    rfl

theorem modeRequest_reframes (target : Byte) : Reframes (modeRequest target) := fun s b m => by
  unfold modeRequest
  split
  · rfl
  · exact Reframed.ite rfl (.ite rfl (changeMode_reframes _ s b m))

theorem timebaseSet_reframes (period : Word) : Reframes (timebaseSet period) := fun s b m => by
  unfold timebaseSet
  split_ifs <;> rfl

end Reframe

/-- No request's action looks at the bytes received or at MISO. -/
theorem requestAct_reframes (c : Instr) : Reframes (requestAct c) := by
  cases c
  case composeWrite field value => exact composeWrite_reframes field value
  case composeRead field => exact composeRead_reframes field
  case load handle => exact load_reframes handle
  case create => exact create_reframes
  case amend handle => exact amend_reframes handle
  case retire handle => exact retire_reframes handle
  case renew handle => exact renew_reframes handle
  case suspend handle => exact suspend_reframes handle
  case resume handle => exact resume_reframes handle
  case watchStatus handle => exact watchStatus_reframes handle
  case renewTagged tag mask => exact tagged_reframes tag mask 2 fun _ _ _ _ _ => rfl
  case suspendTagged tag mask => exact tagged_reframes tag mask 1 fun _ _ _ _ _ => rfl
  case resumeTagged tag mask => exact tagged_reframes tag mask 1 fun _ _ _ _ _ => rfl
  case retireTagged tag mask => exact tagged_reframes tag mask 1 fun _ _ _ _ _ => rfl
  case countTagged tag mask => exact tagged_reframes tag mask 3 fun _ _ _ _ _ => rfl
  case findFirst tag mask => exact findFirst_reframes tag mask
  case findNext => exact findNext_reframes
  case notifySet enable threshold => exact notifySet_reframes enable threshold
  case channelSet => exact channelSet_reframes _ _ _ _ _ _
  case channelGet channel => exact channelGet_reframes channel
  case channelRead channel => exact channelRead_reframes channel
  case planSet => exact planSet_reframes _ _ _ _ _ _
  case start => exact start_reframes
  case stop => exact stop_reframes
  case refOff => exact refOff_reframes
  case modeRequest target => exact modeRequest_reframes target
  case timebaseSet period => exact timebaseSet_reframes period
  all_goals exact fun _ _ _ => rfl

/-! ## Byte by byte -/

section Bytewise

variable {c : Instr} {s t : State}

/-- A request is answered alike whatever part of its bytes has been received (R189, R190). -/
theorem exec_reframe (hw : c.wellFormed = true) {b : List Byte} {m : Miso} (h : s.port.awaits c.requestBytes = true)
    (h' : (s.reframe b m).port.awaits c.requestBytes = true) : exec c (s.reframe b m) = exec c s := by
  rw [exec_awaits hw h', exec_awaits hw h, requestAct_reframes c s b m]
  rfl

theorem runAll_append {xs ys : List Instr} (h : runAll xs s = .next t) : runAll (xs ++ ys) s = runAll ys t := by
  induction xs generalizing s with
  | nil =>
    cases h
    rfl
  | cons x xs ih =>
    obtain ⟨u, hu⟩ := exec_next x s
    simp only [runAll, hu, List.cons_append] at h ⊢
    exact ih h

theorem runAll_single (c : Instr) (s : State) : runAll [c] s = exec c s := by
  obtain ⟨t, ht⟩ := exec_next c s
  simp only [runAll, ht]

/-- A frame that has received some of a request's bytes and not the last one awaits the rest (R189). -/
theorem State.reframe_awaits (hp : s.port.phase = .receiving) {b rest : List Byte} (m : Miso) (hb : c.requestBytes = b ++ rest)
    (hne : rest ≠ []) : (s.reframe b m).port.awaits c.requestBytes = true :=
  (Port.awaits_iff _ _).mpr ⟨hp, rest, hne, hb⟩

/-- The bytes of a request before its last are counted one by one (R189). -/
theorem runAll_counts (hw : c.wellFormed = true) (hp : s.port.phase = .receiving) (hr : s.port.received = []) (b rest : List Byte)
    (hb : c.requestBytes = b ++ rest) (hne : rest ≠ []) :
    ∃ m, runAll (b.map .requestByteArrival) s = .next (s.reframe b m) := by
  induction b using List.reverseRecOn generalizing rest with
  | nil => exact ⟨s.port.miso, congrArg Host.Outcome.next (by rw [State.reframe, ← hr])⟩
  | append_singleton b x ih =>
    obtain ⟨m, hm⟩ := ih (x :: rest) (by rw [hb, List.append_assoc, List.singleton_append]) (List.cons_ne_nil _ _)
    obtain ⟨code, tail, hcons⟩ := List.exists_cons_of_ne_nil (show b ++ [x] ≠ [] by simp)
    have hlength : (code :: tail).length < requestLength code := by
      have hcode : c.requestBytes = code :: (tail ++ rest) := by rw [hb, hcons, List.cons_append]
      rw [← requestBytes_length hw hcode, hcode, ← List.cons_append, List.length_append]
      exact Nat.lt_add_of_pos_right (List.length_pos_iff.mpr hne)
    refine ⟨.summary s.summaryByte, ?_⟩
    rw [List.map_append, List.map_singleton, runAll_append hm, runAll_single,
      requestByteArrival_counted (s := s.reframe b m) hp hcons hlength, hcons]
    rfl

/-- A request ends alike byte by byte, with its last byte or its command at the end, and as the command alone (R189). -/
theorem runAll_request (hw : c.wellFormed = true) (hb : c.requestBytes ≠ []) (hp : s.port.phase = .receiving)
    (hr : s.port.received = []) :
    runAll (c.requestBytes.map .requestByteArrival) s = exec c s ∧
      runAll (c.requestBytes.dropLast.map .requestByteArrival ++ [c]) s = exec c s := by
  have hsplit := List.dropLast_append_getLast hb
  obtain ⟨m, hm⟩ := runAll_counts hw hp hr _ _ hsplit.symm (List.cons_ne_nil _ _)
  have hexec : exec c (s.reframe c.requestBytes.dropLast m) = exec c s :=
    exec_reframe hw (Port.awaits_first hp hr hb) (State.reframe_awaits hp m hsplit.symm (List.cons_ne_nil _ _))
  constructor
  · have hlast := requestByteArrival_last (s := s.reframe c.requestBytes.dropLast m) hw hp hsplit
    rw [show c.requestBytes.map Instr.requestByteArrival = _ from (congrArg _ hsplit).symm.trans List.map_append, runAll_append hm,
      List.map_singleton, runAll_single, hlast, hexec]
  · rw [runAll_append hm, runAll_single, hexec]

end Bytewise

/-- Settles O7, from `runAll_request` and `Port.awaits_iff`. -/
theorem bytewiseRequestEqualsCommand : Obligations.BytewiseRequestEqualsCommand := by
  unfold Obligations.BytewiseRequestEqualsCommand
  exact ⟨fun c s hw hb hp hr => runAll_request hw hb hp hr, fun s request => Port.awaits_iff _ _⟩

end Sys2Proof.Machine
end

section
/-! Faulted samples, runs of qualifying samples, and the watches that an arrival passes by (R22, R23, R36, R44, R45). -/

namespace Sys2Proof.Machine

/-- Settles O20: the judgement is the definition's; the dwell count of a sound watch outside QUALIFYING is 0 already. -/
theorem faultedSampleMoves : Obligations.FaultedSampleMoves := by
  unfold Obligations.FaultedSampleMoves
  refine fun w h => ⟨rfl, fun hs => ?_⟩
  have hdwell : w.dwellCount = 0 := by
    have := h.dwellCount
    rwa [if_neg hs] at this
  simp only [Watch.faultedSample, if_neg hs, ← hdwell]

/-! ## A run of qualifying samples -/

section Run

variable {w u : Watch} {v : Word} {n : Nat}

/-- The watch after a run of good samples, each with its posting. -/
def Watch.heardAll (w : Watch) (vs : List Word) : Watch := vs.foldl (fun x y => (x.goodSample y).posted) w

theorem Watch.entryTest_congr (hset : u.settings = w.settings) (href : u.reference = w.reference) (v : Word) :
    u.entryTest v = w.entryTest v := by
  simp only [Watch.entryTest, hset, href]

/-- Qualifying samples that do not complete the dwell leave all but fault mark, last value, state and dwell count, and are counted
(R36, R39). -/
theorem Watch.heardAll_counts (hr : w.RunAt n) (vs : List Word) (hall : ∀ x ∈ vs, w.entryTest x = true)
    (hn : n + vs.length < w.settings.dwell) :
    (w.heardAll vs).settings = w.settings ∧ (w.heardAll vs).reference = w.reference ∧ (w.heardAll vs).notice = w.notice ∧
      (w.heardAll vs).RunAt (n + vs.length) ∧ (vs ≠ [] → (w.heardAll vs).state = .qualifying) := by
  induction vs using List.reverseRecOn with
  | nil => exact ⟨rfl, rfl, rfl, hr, fun h => absurd rfl h⟩
  | append_singleton vs y ih =>
    rw [List.length_append, List.length_singleton] at hn
    obtain ⟨hset, href, hnotice, hrun, -⟩ := ih (fun x hx => hall x (List.mem_append_left _ hx)) (by omega)
    have htest : (w.heardAll vs).entryTest y = true := by
      rw [Watch.entryTest_congr hset href]
      exact hall y (by simp)
    have hcounts : (w.heardAll (vs ++ [y])) =
        { (w.heardAll vs).heard y with state := .qualifying, dwellCount := n + vs.length + 1 } := by
      show List.foldl _ w (vs ++ [y]) = _
      rw [List.foldl_append]
      show ((w.heardAll vs).goodSample y).posted = _
      rw [Watch.goodSample_run hrun,
        Watch.qualify_counts (w := (w.heardAll vs).heard y) htest (by rw [show ((w.heardAll vs).heard y).settings = _ from hset]; omega)]
      rfl
    rw [hcounts]
    exact ⟨hset, href, hnotice, .inr (.inr ⟨rfl, by simp [Nat.add_assoc]⟩), fun _ => rfl⟩

end Run

/-- Settles O21: the samples before the last are counted (`Watch.heardAll_counts`), and the last completes the dwell. -/
theorem dwellOfQualifyingSamplesTrips : Obligations.DwellOfQualifyingSamplesTrips := by
  unfold Obligations.DwellOfQualifyingSamplesTrips
  intro w vs v hk hs hall hdwell u
  have hu : u = w.heardAll vs := rfl
  clear_value u
  subst hu
  obtain ⟨hset, href, hnotice, hrun, hstate⟩ :=
    Watch.heardAll_counts (w := w) (n := 0) (.inl ⟨hs, rfl⟩) vs (fun x hx => hall x (List.mem_cons_of_mem _ hx)) (by omega)
  rw [Nat.zero_add] at hrun
  have htest : (w.heardAll vs).entryTest v = true := by
    rw [Watch.entryTest_congr hset href]
    exact hall v List.mem_cons_self
  have hheard : ((w.heardAll vs).heard v).settings = w.settings := hset
  have htrip : (w.heardAll vs).goodSample v =
      { watch := { (w.heardAll vs).heard v with state := .tripped, dwellCount := 0 }, posting := some (.trip, v) } := by
    rw [Watch.goodSample_run hrun, Watch.qualify_completes (w := (w.heardAll vs).heard v) htest (by rw [hheard]; exact hdwell),
      Watch.act_level (by rw [hheard]; exact hk)]
  refine ⟨fun hne => ⟨hstate hne, ?_⟩, hnotice, by rw [htrip], by rw [htrip], by rw [htrip]⟩
  obtain ⟨hq, -⟩ | ⟨ha, -⟩ | ⟨-, hcount⟩ := hrun
  · cases (hstate hne).symm.trans hq
  · cases (hstate hne).symm.trans ha
  · exact hcount.symm

/-! ## The watches an arrival passes by -/

section Passes

variable {s t u : State} {i : SlotId} {w : Watch}

theorem evaluate_outOfService (c : ChannelId) (v : Word) (faulted : Bool)
    (h : w.settings.channel ≠ c ∨ w.state = .suspended ∨ w.state = .expired) : evaluate c v faulted w = .unchanged w := by
  refine if_neg fun hin => ?_
  obtain ⟨hsuspended, hexpired⟩ := (Watch.inService_iff w).mp hin.2
  rcases h with h | h | h
  · exact h hin.1
  · exact hsuspended h
  · exact hexpired h

/-- The watch in slot `i` is `w`, and the slot is in the list as it is in `s`. -/
def State.Leaves (s : State) (i : SlotId) (w : Watch) (t : State) : Prop :=
  t.watchAt i = some w ∧ (i ∈ t.joined ↔ i ∈ s.joined)

/-- An event at the watch table leaves a watch that it judges unchanged, and does not list its slot. -/
theorem State.judge_leaves {f : SlotId → Watch → Judgement} (hw : s.watchAt i = some w) (hf : f i w = .unchanged w) :
    s.Leaves i w (s.judge f) := by
  refine ⟨?_, ?_⟩
  · rw [State.watchAt_judge, hw, Option.map_some, hf]
    rfl
  · rw [(s.judge_judged f).joined, List.mem_append, List.mem_filter]
    simp [hw, hf, Judgement.unchanged]

theorem State.arrival_leaves {c : ChannelId} {v : Word} {faulted : Bool} (hw : s.watchAt i = some w)
    (h : w.settings.channel ≠ c ∨ w.state = .suspended ∨ w.state = .expired) : s.Leaves i w (s.arrival c v faulted) :=
  State.judge_leaves (s := s.setEntry c (s.channels[c].arrive v faulted)) hw (evaluate_outOfService c v faulted h)

theorem Measurement.leaves (h : Measurement s t) (hw : s.watchAt i = some w) (hs : w.state = .suspended ∨ w.state = .expired) :
    s.Leaves i w t := by
  cases h with
  | arrival c v faulted _ => exact State.arrival_leaves hw (.inr hs)
  | edge e r _ => exact ⟨hw, Iff.rfl⟩
  | completed _ => exact ⟨hw, Iff.rfl⟩

theorem Measured.leaves (h : Measured s t) (hw : s.watchAt i = some w) (hs : w.state = .suspended ∨ w.state = .expired) :
    s.Leaves i w t := by
  induction h with
  | refl => exact ⟨hw, Iff.rfl⟩
  | tail _ hstep ih =>
    obtain ⟨hx, hj⟩ := hstep.leaves ih.1 hs
    exact ⟨hx, hj.trans ih.2⟩

/-- The events of the measuring blocks. -/
def measuringEvents (r : BitVec 12) (e : EdgeInput) (n : Nat) : List Instr :=
  [.conversionCompletion r, .activeEdge e n, .oppositeEdge e n, .overflow e, .stall e, .windowEnd e]

theorem exec_measured {c : Instr} {r : BitVec 12} {e : EdgeInput} {n : Nat} (hc : c ∈ measuringEvents r e n)
    (h : exec c s = .next t) : Measured s t := by
  simp only [measuringEvents, List.mem_cons, List.not_mem_nil, or_false] at hc
  obtain rfl | rfl | rfl | rfl | rfl | rfl := hc
  · exact .conversionCompletion h
  · exact .of_next h (.activeEdge s e n)
  · exact .of_next h (.oppositeEdge s e n)
  · exact .of_next h (.rangeEnd s (by decide) e)
  · exact .of_next h (.rangeEnd s (by decide) e)
  · exact .of_next h (.deliverWindow s e)

end Passes

/-- Settles O22: an arrival evaluates a watch in service on its channel and passes the others by (`evaluate_outOfService`), and so
does every event of the measuring blocks (`exec_measured`, `Measured.leaves`). -/
theorem arrivalsPassUnevaluatedWatches : Obligations.ArrivalsPassUnevaluatedWatches := by
  unfold Obligations.ArrivalsPassUnevaluatedWatches
  refine ⟨fun c v w => ⟨fun hc hs => ?_, fun h faulted => evaluate_outOfService c v faulted h⟩, fun w => ⟨rfl, fun _ _ => rfl⟩,
    fun c s t i w r e n hc hx hw hs => (exec_measured hc hx).leaves hw hs⟩
  have hin : w.settings.channel = c ∧ w.inService = true := by
    refine ⟨hc, (Watch.inService_iff w).mpr ?_⟩
    rcases hs with hs | hs | hs | hs <;> simp [hs]
  exact ⟨if_pos hin, if_pos hin⟩

end Sys2Proof.Machine
end

section
/-! Reading the head of the pending list, and taking its notice (R59 to R64). -/

namespace Sys2Proof.Machine

/-! ## The head of the list -/

section Head

variable {s t : State} {i : SlotId} {rest : List SlotId} {w : Watch} {n : Notice}

theorem State.head_eq (h : s.TableSound) (hl : s.pendingList = i :: rest) (hw : s.watchAt i = some w)
    (hn : w.notice = some n) : s.head = some (i, w, n) := by
  obtain ⟨x, m, hx, hm, hhead⟩ := State.head_cons h hl
  cases hw.symm.trans hx
  cases hn.symm.trans hm
  exact hhead

theorem State.noticeAnswer_nil (hl : s.pendingList = []) :
    s.noticeAnswer = { outcome := .empty, data := [0xFF#8, 0xFF#8] ++ List.replicate 7 0#8 } := by
  have hbytes : wordBytes Config.noHandle = [0xFF#8, 0xFF#8] := rfl
  simp only [State.noticeAnswer, State.head_nil hl, hbytes]

theorem State.noticeAnswer_cons (hhead : s.head = some (i, w, n)) :
    s.noticeAnswer =
      { outcome := .ok
        data := wordBytes (s.handleAt i) ++ wordBytes (w.settings.owner.setWidth 16) ++ [noticeKindByte n.kind] ++
          wordBytes n.value ++ [noticeFlags n.coalesced w.faultMark, watchStateByte w.state] } := by
  simp only [State.noticeAnswer, hhead]

theorem State.newClaim_nil (hl : s.pendingList = []) : s.newClaim = none := by
  simp only [State.newClaim, State.head_nil hl, Option.map_none]

theorem State.newClaim_cons (h : s.TableSound) (hl : s.pendingList = i :: rest) :
    s.newClaim = some { slot := i, generation := s.generationAt i } := by
  obtain ⟨w, n, -, -, hhead⟩ := State.head_cons h hl
  simp only [State.newClaim, hhead, Option.map_some]

theorem Answered.of_answer {c : Instr} {a b : Answer} (h : Answered c s t a.outcome a.data) (hab : a = b) :
    Answered c s t b.outcome b.data := hab ▸ h

/-- What is answered about the head, for both requests that report it (R59, R61). -/
theorem Answered.notice {c : Instr} (hs : s.TableSound) (h : Answered c s t s.noticeAnswer.outcome s.noticeAnswer.data) :
    (s.pendingList = [] → Answered c s t .empty ([0xFF#8, 0xFF#8] ++ List.replicate 7 0#8)) ∧
    ∀ i rest w n, s.pendingList = i :: rest → s.watchAt i = some w → w.notice = some n →
      Answered c s t .ok (wordBytes (s.handleAt i) ++ wordBytes (w.settings.owner.setWidth 16) ++
        [noticeKindByte n.kind] ++ wordBytes n.value ++ [noticeFlags n.coalesced w.faultMark, watchStateByte w.state]) :=
  ⟨fun hl => h.of_answer (State.noticeAnswer_nil hl),
   fun _ _ _ _ hl hw hn => h.of_answer (State.noticeAnswer_cons (State.head_eq hs hl hw hn))⟩

end Head

/-- Settles O26, by what both requests answer about the head (`Answered.notice`) and the claim that NOTICE-TAKE records
(`State.newClaim_nil`, `State.newClaim_cons`). -/
theorem noticeRequestsReportHead : Obligations.NoticeRequestsReportHead := by
  unfold Obligations.NoticeRequestsReportHead
  rintro s hs c (rfl | rfl) ha
  · obtain ⟨hnil, hcons⟩ := (answered_awaits (c := .noticePeek) rfl ha rfl).notice hs
    refine ⟨_, ?_, ?_, hnil, hcons, fun _ => rfl, nofun, nofun⟩ <;> rfl
  · obtain ⟨hnil, hcons⟩ := (answered_awaits (c := .noticeTake) rfl ha rfl).notice hs
    refine ⟨_, ?_, ?_, hnil, hcons, nofun, fun _ => State.newClaim_nil, fun _ _ _ => State.newClaim_cons hs⟩ <;> rfl

/-! ## The removal of a claimed notice -/

section Removal

variable {s : State} {k : TakeClaim}

theorem State.removeClaimed_noClaim (h : s.port.claim = none) : s.removeClaimed = s := by
  simp only [State.removeClaimed, h]

theorem State.removeClaimed_otherGeneration (hk : s.port.claim = some k) (hg : s.generationAt k.slot ≠ k.generation) :
    s.removeClaimed = s := by
  simp only [State.removeClaimed, hk, if_neg hg]

theorem State.removeClaimed_claim (hk : s.port.claim = some k) (hg : s.generationAt k.slot = k.generation) :
    s.removeClaimed = s.removeNotice k.slot := by
  simp only [State.removeClaimed, hk, if_pos hg]

theorem noticeTakeRemoval_next (hp : s.port.phase = .answering) (hr : s.port.received = [0x42#8]) :
    exec .noticeTakeRemoval s =
      .next { s.removeClaimed with port := { s.port with phase := .trailing, miso := .zero, claim := none } } :=
  if_pos (by simp [Port.answersTake, hp, hr, Instr.requestBytes])

end Removal

/-- Settles O27, by what becomes of a claim (`State.removeClaimed_noClaim`, `State.removeClaimed_otherGeneration`,
`State.removeClaimed_claim`) and of the claimed notice (`State.removeNotice_expired`, `State.removeNotice_live`). -/
theorem noticeTakeRemovesClaimedNotice : Obligations.NoticeTakeRemovesClaimedNotice := by
  unfold Obligations.NoticeTakeRemovesClaimedNotice
  intro s hp hr
  refine ⟨_, noticeTakeRemoval_next hp hr, rfl, fun hnone => ?_, fun k hk hg => ?_,
    fun k w hk hg hw => ⟨fun he => ?_, fun he => ?_⟩⟩
  · rw [State.removeClaimed_noClaim hnone]
    rfl
  · rw [State.removeClaimed_otherGeneration hk hg]
    rfl
  · rw [State.removeClaimed_claim hk hg, State.removeNotice_expired hw he]
    have hfreed := s.freeWatches_onlyFreed (fun j _ => j == k.slot) [] (zeroAnswer .ok 0)
    exact ⟨rfl, rfl, hfreed.freed, hfreed.kept⟩
  · rw [State.removeClaimed_claim hk hg, State.removeNotice_live hw he]
    exact ⟨rfl, rfl, (State.watchAt_dropNotice hw k.slot).trans (if_pos rfl), State.generationAt_dropNotice,
      fun j hj => (State.watchAt_dropNotice hw j).trans (if_neg hj)⟩

end Sys2Proof.Machine
end

section
/-! Ticks, and the leases they count down (R72, R73, R78 to R85). -/

namespace Sys2Proof.Machine

/-! ## An expiry of the interval -/

section Expiry

variable {s t : State}

/-- The state that an expiry of a running interval leaves (R73, R78). -/
def State.ticked (s : State) : State :=
  ({ s with timeBase := s.timeBase.reload }.judge fun _ w => w.tick).tickEdges

theorem intervalExpiry_ticks (h : s.timeBase.countdown.isSome = true) :
    exec .intervalExpiry s = .next s.deliverWindows.ticked := if_pos h

theorem intervalExpiry_stopped (h : s.timeBase.countdown = none) : exec .intervalExpiry s = .next s :=
  if_neg (by simp [h])

/-- A tick judges every live watch by its lease (R79, R80). -/
theorem State.ticked_judged (s : State) : Judged (fun _ w => w.tick) s s.ticked := by
  have h := State.judge_judged { s with timeBase := s.timeBase.reload } fun _ w => w.tick
  exact ⟨h.generations, h.watches, h.joined, h.claim⟩

theorem State.ticked_edges (s : State) (e : EdgeInput) :
    s.ticked.edges.get e = (s.edges.get e).tick (s.edgeSettings.get e) := State.tickEdges_edges _ e

/-- A tick at one edge channel, case by case (R170, R171). -/
theorem EdgeRecord.tick_eq (q : EdgeSettings) (r : EdgeRecord) :
    r.tick q =
      if q.mode ≠ .count ∨ r.state = .idle then r
      else if r.state = .waiting then { r with state := .measuring, count := 0#16, gateCountdown := q.gate }
      else if 2 ≤ r.gateCountdown.toNat then { r with gateCountdown := r.gateCountdown - 1#8 }
      else { r with count := 0#16, gateCountdown := q.gate, windowDue := some r.count } := by
  by_cases hm : q.mode = .count
  · cases hs : r.state with
    | idle => simp [EdgeRecord.tick, hm, hs]
    | waiting => simp [EdgeRecord.tick, hm, hs]
    | measuring =>
      by_cases hg : 2 ≤ r.gateCountdown.toNat
      · have hle : ¬ r.gateCountdown.toNat ≤ 1 := by omega
        simp [EdgeRecord.tick, hm, hs, hg, hle]
      · have hle : r.gateCountdown.toNat ≤ 1 := by omega
        simp [EdgeRecord.tick, hm, hs, hg, hle]
  · simp [EdgeRecord.tick, hm]

end Expiry

/-- Settles O30: window samples still due arrive first, then one tick judges the watches (`State.ticked_judged`, `Watch.tick_eq`) and
reaches the edge channels (`State.ticked_edges`, `EdgeRecord.tick_eq`). -/
theorem intervalExpiryTicks : Obligations.IntervalExpiryTicks := by
  unfold Obligations.IntervalExpiryTicks
  refine ⟨fun s h => ⟨s.deliverWindows, _, rfl, intervalExpiry_ticks h, rfl, ?_, fun e => ?_, rfl, rfl⟩,
    fun s => intervalExpiry_stopped⟩
  · have hjudged := s.deliverWindows.ticked_judged
    rw [show (fun (_ : SlotId) (w : Watch) => w.tick) = _ from funext fun _ => funext Watch.tick_eq] at hjudged
    exact hjudged
  · exact (State.ticked_edges _ e).trans (EdgeRecord.tick_eq _ _)

/-! ## A lease that lapses -/

section Lapse

variable {s : State} {i : SlotId} {w : Watch}

/-- The time base runs, slot `i` holds `w`, and nothing but ticks reaches it: its channel is no edge channel in COUNT mode, whose
windows hand samples on ticks. -/
structure State.OnlyTicks (s : State) (i : SlotId) (w : Watch) : Prop where
  running : s.timeBase.countdown.isSome = true
  watch : s.watchAt i = some w
  quiet : ∀ e, edgeChannel e = w.settings.channel → (s.edgeSettings.get e).mode ≠ .count ∧ (s.edges.get e).windowDue = none

/-- A window sample of another channel leaves the watch. -/
theorem State.deliverWindow_watchAt {e : EdgeInput} (hw : s.watchAt i = some w)
    (h : edgeChannel e = w.settings.channel → (s.edges.get e).windowDue = none) :
    (s.deliverWindow e).watchAt i = some w := by
  unfold State.deliverWindow
  split
  · exact hw
  · next v hdue =>
    have hother : w.settings.channel ≠ edgeChannel e := fun heq => by
      cases hdue.symm.trans (h heq.symm)
    exact (State.arrival_leaves (s := s.setEdge e _) hw (.inl hother)).1

theorem State.OnlyTicks.deliverWindows (h : s.OnlyTicks i w) : s.deliverWindows.watchAt i = some w := by
  have hfirst := State.deliverWindow_watchAt (e := .edg0) h.watch fun he => (h.quiet _ he).2
  refine State.deliverWindow_watchAt (e := .edg1) hfirst fun he => ?_
  rw [(s.deliverWindow_due .edg0).2 .edg1 (by decide)]
  exact (h.quiet _ he).2

/-- One tick at a watch that nothing else reaches. -/
theorem State.OnlyTicks.tick (h : s.OnlyTicks i w) :
    ∃ t, exec .intervalExpiry s = .next t ∧ t.OnlyTicks i w.tick.posted := by
  have hsettings : w.tick.posted.settings = w.settings := (Judgement.posted_settings _).trans w.tick_keeps.1
  refine ⟨_, intervalExpiry_ticks h.running, rfl, ?_, fun e he => ?_⟩
  · rw [(State.ticked_judged _).watches, h.deliverWindows, Option.map_some]
  · rw [hsettings] at he
    have hmode : (s.deliverWindows.edgeSettings.get e).mode ≠ .count := by
      rw [State.deliverWindows_edgeSettings]
      exact (h.quiet e he).1
    refine ⟨hmode, ?_⟩
    rw [State.ticked_edges, EdgeRecord.tick_eq, if_pos (.inl hmode)]
    exact s.deliverWindows_due e

theorem Watch.tick_counts (hl : w.settings.lease ≠ 0#16) (he : w.state ≠ .expired) (h : 2 ≤ w.leaseRemaining.toNat) :
    w.tick.posted = { w with leaseRemaining := w.leaseRemaining - 1#16 } := by
  rw [Watch.tick_eq, if_neg (not_or.mpr ⟨hl, he⟩), if_pos h]
  rfl

theorem Watch.tick_lapses (hl : w.settings.lease ≠ 0#16) (he : w.state ≠ .expired) (h : w.leaseRemaining.toNat ≤ 1) :
    w.tick = w.expire := by
  rw [Watch.tick_eq, if_neg (not_or.mpr ⟨hl, he⟩), if_neg (by omega)]

/-- `n` ticks, fewer than the lease has left, count it down by `n` (R79). -/
theorem State.OnlyTicks.run (n : Nat) : ∀ {s : State} {w : Watch}, s.OnlyTicks i w → w.settings.lease ≠ 0#16 →
    w.state ≠ .expired → n < w.leaseRemaining.toNat →
    ∃ t, runAll (List.replicate n .intervalExpiry) s = .next t ∧
      t.OnlyTicks i { w with leaseRemaining := w.leaseRemaining - BitVec.ofNat 16 n } := by
  induction n with
  | zero =>
    intro s w h _ _ _
    refine ⟨s, rfl, ?_⟩
    rw [BitVec.sub_zero]
    exact h
  | succ n ih =>
    intro s w h hl he hn
    obtain ⟨u, hu, hticked⟩ := h.tick
    rw [Watch.tick_counts hl he (by omega)] at hticked
    have hone : (w.leaseRemaining - 1#16).toNat = w.leaseRemaining.toNat - 1 := by bv_omega
    obtain ⟨t, ht, hleft⟩ := ih hticked hl he (show n < (w.leaseRemaining - 1#16).toNat by omega)
    refine ⟨t, ?_, ?_⟩
    · rw [List.replicate_succ, runAll, hu]
      exact ht
    · have hsub : w.leaseRemaining - 1#16 - BitVec.ofNat 16 n = w.leaseRemaining - BitVec.ofNat 16 (n + 1) := by bv_omega
      rw [← hsub]
      exact hleft

end Lapse

/-- Settles O31: each tick but the last counts the lease down (`State.OnlyTicks.run`), and the last one expires the watch
(`Watch.tick_lapses`). -/
theorem leaseLapsesOnLastTick : Obligations.LeaseLapsesOnLastTick := by
  unfold Obligations.LeaseLapsesOnLastTick
  intro s i w n hrun hw hquiet hl he hn
  obtain ⟨t, ht, hleft⟩ := State.OnlyTicks.run n ⟨hrun, hw, hquiet⟩ hl he hn
  refine ⟨t, ht, hleft.watch, fun hlast => ?_⟩
  obtain ⟨u, hu, hticked⟩ := hleft.tick
  have hone : (w.leaseRemaining - BitVec.ofNat 16 n).toNat ≤ 1 := by bv_omega
  have hlapse : ({ w with leaseRemaining := w.leaseRemaining - BitVec.ofNat 16 n } : Watch).tick = _ :=
    Watch.tick_lapses hl he hone
  rw [hlapse] at hticked
  exact ⟨u, _, hu, hticked.watch, rfl, rfl, rfl, rfl, rfl⟩

/-! ## The expiry of one lease -/

section OneLease

variable {s : State} {i : SlotId} {w : Watch}

/-- What LEASE_EXPIRY makes of the watches: only slot `i` is judged. -/
def leaseExpiryJudgement (i j : SlotId) (w : Watch) : Judgement :=
  if j = i ∧ w.counting ∧ w.leaseRemaining.toNat ≤ 1 then w.expire else .unchanged w

theorem leaseExpiryJudgement_other {j : SlotId} (h : j ≠ i) : leaseExpiryJudgement i j w = .unchanged w :=
  if_neg fun hc => h hc.1

theorem leaseExpiryJudgement_same (hl : w.settings.lease ≠ 0#16) (he : w.state ≠ .expired) (h : w.leaseRemaining.toNat ≤ 1) :
    leaseExpiryJudgement i i w = w.expire :=
  if_pos ⟨rfl, by simp [Watch.counting_eq, hl, he], h⟩

theorem leaseExpiry_judges (h : s.timeBase.countdown.isSome = true) :
    exec (.leaseExpiry i) s = .next (s.judge (leaseExpiryJudgement i)) := if_pos h

/-- A predicate of slots that only slot `i` can meet filters it, or nothing, out of the slots. -/
theorem filter_finRange_single {p : SlotId → Bool} (h : ∀ j, j ≠ i → p j = false) :
    (List.finRange 64).filter p = if p i = true then [i] else [] := by
  split_ifs with hi
  · have hp : p = fun j => decide (j = i) := funext fun j => by
      by_cases hj : j = i
      · simp [hj, hi]
      · simp [hj, h j hj]
    rw [hp, List.filter_eq, List.count_eq_one_of_mem (List.nodup_finRange 64) (List.mem_finRange i), List.replicate_one]
  · refine List.filter_eq_nil_iff.mpr fun j _ hj => ?_
    by_cases hji : j = i
    · exact hi (hji ▸ hj)
    · simp [h j hji] at hj

end OneLease

/-- Settles O32: the judgement of slot `i` is its expiry (`leaseExpiryJudgement_same`), and every other watch is judged unchanged
(`leaseExpiryJudgement_other`). -/
theorem leaseExpiryExpiresWatch : Obligations.LeaseExpiryExpiresWatch := by
  unfold Obligations.LeaseExpiryExpiresWatch
  intro s i w hrun hw hl he hone
  have hjudged := s.judge_judged (leaseExpiryJudgement i)
  have hsame : leaseExpiryJudgement i i w = w.expire := leaseExpiryJudgement_same hl he hone
  refine ⟨_, leaseExpiry_judges hrun, ?_, fun j hj => ?_, hjudged.generations, ?_, fun k hk => ?_, rfl, rfl⟩
  · rw [hjudged.watches, hw, Option.map_some, hsame]
    rfl
  · rw [hjudged.watches]
    cases s.watchAt j with
    | none => rfl
    | some x =>
      rw [Option.map_some, leaseExpiryJudgement_other hj]
      rfl
  · have hother : ∀ j, j ≠ i →
        ((s.watchAt j).any fun x => (leaseExpiryJudgement i j x).posting.isSome && x.notice.isNone) = false := fun j hj => by
      cases s.watchAt j <;> simp [leaseExpiryJudgement_other hj, Judgement.unchanged]
    rw [hjudged.joined, filter_finRange_single hother]
    cases hn : w.notice <;> simp [hw, hsame, hn, Watch.expire]
  · rw [hjudged.claim, hk]
    by_cases hki : k.slot = i
    · simp [hki, hw, hsame, Watch.expire]
    · cases s.watchAt k.slot <;> simp [hki, leaseExpiryJudgement_other hki, Judgement.unchanged]

/-! ## RENEW -/

section Renew

variable {s : State} {i : SlotId} {w : Watch}

theorem renew_expired (hw : s.watchAt i = some w) (he : w.state = .expired) :
    renew (s.handleAt i) s = (s, zeroAnswer .expired 2) := by
  simp only [renew, s.lookup_handleAt hw]
  exact if_pos (by simp [Watch.isExpired, he])

theorem renew_live (hw : s.watchAt i = some w) (he : w.state ≠ .expired) :
    renew (s.handleAt i) s =
      if w.settings.lease = 0#16 then (s, zeroAnswer .ok 2)
      else (s.setWatch i w.reload, { outcome := .ok, data := wordBytes w.settings.lease }) := by
  simp only [renew, s.lookup_handleAt hw]
  rw [if_neg (by simp [Watch.isExpired, he])]
  by_cases hl : w.settings.lease = 0#16
  · rw [if_pos hl, if_neg (by simp [Watch.counting_eq, hl])]
  · rw [if_neg hl, if_pos (by simp [Watch.counting_eq, hl, he])]

end Renew

/-- Settles O33, by the three answers of RENEW (`renew_expired`, `renew_live`). -/
theorem renewReloadsLease : Obligations.RenewReloadsLease := by
  unfold Obligations.RenewReloadsLease
  intro s i w hw ha
  refine ⟨fun he => ?_, fun he hl => ?_, fun he hl => ?_⟩
  · exact ⟨_, takes_awaits rfl ha (renew_expired hw he) rfl rfl, rfl⟩
  · exact ⟨_, takes_awaits rfl ha ((renew_live hw he).trans (if_pos hl)) rfl rfl, rfl⟩
  · exact ⟨_, takes_awaits rfl ha ((renew_live hw he).trans (if_neg hl)) rfl rfl, s.setWatch_onlyWatch hw _ _⟩

end Sys2Proof.Machine
end

section
/-! Building and changing one watch: LOAD, validation, CREATE, AMEND, SUSPEND and RESUME (R94 to R109). -/

namespace Sys2Proof.Machine

/-! ## LOAD -/

section Load

variable {s : State} {i : SlotId} {w : Watch}

theorem load_handleAt (hw : s.watchAt i = some w) :
    load (s.handleAt i) s =
      ({ s with compose := w.settings.toBuffer }, { outcome := .ok, data := [watchStateByte w.state] }) := by
  simp only [load, s.lookup_handleAt hw]

/-- The buffer of settings gives the settings back, because level B is there for the band kinds alone (R4). -/
theorem Settings.toBuffer_toSettings {t : Settings} (h : t.levelB.isSome = t.kind.isBand) : t.toBuffer.toSettings = t := by
  have hlevel : (if t.kind.isBand = true then some (t.levelB.getD 0#16) else none) = t.levelB := by
    rw [← h]
    cases t.levelB <;> rfl
  have hsettings : t.toBuffer.toSettings =
      { t with levelB := if t.kind.isBand = true then some (t.levelB.getD 0#16) else none } := rfl
  rw [hsettings, hlevel]

end Load

/-- Settles O37, from the answer to the handle of a live watch (`load_handleAt`) and the way back from the buffer
(`Settings.toBuffer_toSettings`). -/
theorem loadCopiesSettings : Obligations.LoadCopiesSettings := by
  unfold Obligations.LoadCopiesSettings
  intro s i w hw hband ha
  exact ⟨_, takes_awaits rfl ha (load_handleAt hw) rfl rfl, rfl, rfl, Settings.toBuffer_toSettings hband⟩

/-! ## CREATE and AMEND, answer by answer -/

section CreateAmend

variable {s : State} {i : SlotId} {w u : Watch} {f : Byte}

theorem wordBytes_noHandle : wordBytes Config.noHandle = [0xFF#8, 0xFF#8] := rfl

theorem create_refuses (hf : s.failingField = some f) :
    create s = (s, { outcome := .badRecord, data := [0xFF#8, 0xFF#8, f] }) := by
  simp only [create, hf, wordBytes_noHandle, List.cons_append, List.nil_append]

theorem create_full (hf : s.failingField = none) (hl : s.lowestFree = none) :
    create s = (s, { outcome := .noSlot, data := [0xFF#8, 0xFF#8, 0#8] }) := by
  simp only [create, hf, hl, wordBytes_noHandle, List.cons_append, List.nil_append]

theorem create_fills (hf : s.failingField = none) (hl : s.lowestFree = some i) :
    create s = (s.fillSlot i s.compose.newWatch, { outcome := .ok, data := wordBytes (s.handleAt i) ++ [0#8] }) := by
  simp only [create, hf, hl]

theorem State.lowestFree_none (h : ∀ i, (s.watchAt i).isSome = true) : s.lowestFree = none :=
  List.find?_eq_none.mpr fun i _ => by simpa [Option.isSome_iff_ne_none] using h i

theorem amend_expired (hw : s.watchAt i = some w) (he : w.state = .expired) :
    amend (s.handleAt i) s = (s, zeroAnswer .expired 4) := by
  simp only [amend, s.lookup_handleAt hw]
  exact if_pos (by simp [Watch.isExpired, he])

theorem amend_refuses (hw : s.watchAt i = some w) (he : w.state ≠ .expired) (hf : s.failingField = some f) :
    amend (s.handleAt i) s = (s, { outcome := .badRecord, data := [f, 0#8, 0#8, 0#8] }) := by
  simp only [amend, s.lookup_handleAt hw, hf]
  exact if_neg (by simp [Watch.isExpired, he])

/-- AMEND with a valid record; `u` is the watch that it makes (R101). -/
theorem amend_accepts (hw : s.watchAt i = some w) (he : w.state ≠ .expired) (hf : s.failingField = none)
    (hu : w.amended s.compose.toSettings = u) :
    amend (s.handleAt i) s =
      (s.setWatch i u, { outcome := .ok, data := 0#8 :: watchStateByte u.state :: wordBytes u.leaseRemaining }) := by
  subst hu
  simp only [amend, s.lookup_handleAt hw, hf]
  exact if_neg (by simp [Watch.isExpired, he])

theorem Watch.amended_same {n : Settings} (hc : n.channel = w.settings.channel) (hk : n.kind = w.settings.kind) :
    w.amended n = { w with settings := n, leaseRemaining := n.lease, state := keptState w.state, dwellCount := 0 } :=
  if_pos ⟨hc, hk⟩

theorem Watch.amended_other {n : Settings} (h : n.channel ≠ w.settings.channel ∨ n.kind ≠ w.settings.kind) :
    w.amended n =
      { w with settings := n, leaseRemaining := n.lease, state := rearmedState w.state, dwellCount := 0,
               faultMark := false, lastValue := none, reference := none } :=
  if_neg (not_and_or.mpr h)

theorem keptState_eq (st : WatchState) : keptState st = if st = .qualifying then .quiet else st := by cases st <;> rfl

theorem rearmedState_eq {st : WatchState} (he : st ≠ .expired) :
    rearmedState st = if st = .suspended then .suspended else .arming := by
  cases st
  case expired => exact absurd rfl he
  all_goals rfl

end CreateAmend

/-! ## Validation -/

/-- Settles O38, by the checks in their order (`State.failingField_eq`) and the two requests that report the failing field
(`create_refuses`, `amend_refuses`). -/
theorem validationReportsFirstFailure : Obligations.ValidationReportsFirstFailure := by
  unfold Obligations.ValidationReportsFirstFailure
  intro s b enabled levelA levelB band
  refine ⟨fun f hf => ?_, s.failingField_none_iff.symm⟩
  have hfield : s.failingField = some f := by
    rw [State.failingField_eq]
    obtain ⟨h1, rfl⟩ | ⟨h1, h2, rfl⟩ | ⟨h1, h2, h3, rfl⟩ | ⟨h1, h2, h3, h4, rfl⟩ := hf
    · exact if_pos h1
    · rw [if_neg (not_not.mpr h1), if_pos h2]
    · rw [if_neg (not_not.mpr h1), if_neg (not_not.mpr h2), if_pos h3]
    · rw [if_neg (not_not.mpr h1), if_neg (not_not.mpr h2), if_neg (not_not.mpr h3), if_pos h4]
  exact ⟨fun ha => ⟨_, takes_awaits rfl ha (create_refuses hfield) rfl rfl, rfl⟩,
    fun i w hw he ha => ⟨_, takes_awaits rfl ha (amend_refuses hw he hfield) rfl rfl, rfl⟩⟩

/-! ## CREATE -/

theorem ComposeBuffer.toSettings_eq (b : ComposeBuffer) :
    b.toSettings =
      { owner := b.owner, channel := b.channel, kind := b.kind, levelA := b.levelA,
        levelB := if b.kind = .outside ∨ b.kind = .inside then some b.levelB else none, hysteresis := b.hysteresis,
        dwell := b.dwell, step := b.step, priority := b.priority, lease := b.lease } := by
  simp only [ComposeBuffer.toSettings, WatchKind.isBand_iff]

/-- Settles O39: the slot is the lowest FREE one (`State.lowestFree_eq`, `State.lowestFree_none`), and it alone is filled
(`State.watchAt_fillSlot`). -/
theorem createFillsLowestFreeSlot : Obligations.CreateFillsLowestFreeSlot := by
  unfold Obligations.CreateFillsLowestFreeSlot
  refine ⟨ComposeBuffer.toSettings_eq, fun s hf ha => ⟨fun i hi hlow => ?_, fun hfull => ?_⟩⟩
  · have hfree : s.lowestFree = some i := s.lowestFree_eq hi hlow
    exact ⟨_, takes_awaits rfl ha (create_fills hf hfree) rfl rfl, rfl, fun j => s.generationAt_fillSlot i j _,
      fun j hj => (s.watchAt_fillSlot i j _).trans (if_neg hj), _, (s.watchAt_fillSlot i i _).trans (if_pos rfl),
      rfl, rfl, rfl, rfl, rfl, rfl, rfl, rfl⟩
  · exact ⟨_, takes_awaits rfl ha (create_full hf (State.lowestFree_none hfull)) rfl rfl, rfl⟩

/-! ## AMEND -/

/-- Settles O40, by the answers of AMEND (`amend_expired`, `amend_accepts`) and the watch it makes (`Watch.amended_same`,
`Watch.amended_other`). -/
theorem amendRearmsOrKeeps : Obligations.AmendRearmsOrKeeps := by
  unfold Obligations.AmendRearmsOrKeeps
  intro s i w hw ha n
  refine ⟨fun he => ?_, fun he hf hc hk => ?_, fun he hf hother => ?_⟩
  · exact ⟨_, takes_awaits rfl ha (amend_expired hw he) rfl rfl, rfl⟩
  · have hact := amend_accepts hw he hf (Watch.amended_same hc hk)
    exact ⟨_, _, keptState_eq w.state, takes_awaits rfl ha hact rfl rfl, s.setWatch_onlyWatch hw _ _⟩
  · have hact := amend_accepts hw he hf (Watch.amended_other hother)
    exact ⟨_, _, rearmedState_eq he, takes_awaits rfl ha hact rfl rfl, s.setWatch_onlyWatch hw _ _⟩

/-! ## SUSPEND and RESUME -/

section SuspendResume

variable {s : State} {i : SlotId} {w : Watch}

theorem suspend_expired (hw : s.watchAt i = some w) (he : w.state = .expired) :
    suspend (s.handleAt i) s = (s, zeroAnswer .expired 1) := by
  simp only [suspend, s.lookup_handleAt hw]
  exact if_pos (by simp [Watch.isExpired, he])

theorem suspend_suspended (hw : s.watchAt i = some w) (he : w.state = .suspended) :
    suspend (s.handleAt i) s = (s, { outcome := .ok, data := [watchStateByte w.state] }) := by
  simp only [suspend, s.lookup_handleAt hw]
  rw [if_neg (by simp [Watch.isExpired, he]), if_neg (by simp [Watch.inService_iff, he])]

theorem suspend_inService (hw : s.watchAt i = some w) (he : w.state ≠ .expired) (hs : w.state ≠ .suspended) :
    suspend (s.handleAt i) s = (s.setWatch i w.suspended, { outcome := .ok, data := [watchStateByte w.state] }) := by
  simp only [suspend, s.lookup_handleAt hw]
  rw [if_neg (by simp [Watch.isExpired, he]), if_pos ((Watch.inService_iff w).mpr ⟨hs, he⟩)]

theorem resume_expired (hw : s.watchAt i = some w) (he : w.state = .expired) :
    resume (s.handleAt i) s = (s, zeroAnswer .expired 1) := by
  simp only [resume, s.lookup_handleAt hw]
  exact if_pos (by simp [Watch.isExpired, he])

theorem resume_suspended (hw : s.watchAt i = some w) (he : w.state = .suspended) :
    resume (s.handleAt i) s = (s.setWatch i w.resumed, { outcome := .ok, data := [watchStateByte w.state] }) := by
  simp only [resume, s.lookup_handleAt hw]
  rw [if_neg (by simp [Watch.isExpired, he]), if_neg (by simp [Watch.inService_iff, he])]

theorem resume_inService (hw : s.watchAt i = some w) (he : w.state ≠ .expired) (hs : w.state ≠ .suspended) :
    resume (s.handleAt i) s = (s, { outcome := .ok, data := [watchStateByte w.state] }) := by
  simp only [resume, s.lookup_handleAt hw]
  rw [if_neg (by simp [Watch.isExpired, he]), if_pos ((Watch.inService_iff w).mpr ⟨hs, he⟩)]

end SuspendResume

/-- Settles O41, by the three answers of each request, one a sort of state. -/
theorem suspendAndResumeMoves : Obligations.SuspendAndResumeMoves := by
  unfold Obligations.SuspendAndResumeMoves
  intro s i w hw h
  have hreport : w.state = .suspended → [watchStateByte w.state] = [5#8] := fun hs => by rw [hs]; rfl
  refine ⟨fun ha => ⟨fun he => ?_, fun hs => ?_, fun he hs => ?_⟩, fun ha => ⟨fun he => ?_, fun hs => ?_, fun he hs => ?_⟩⟩
  · exact ⟨_, takes_awaits rfl ha (suspend_expired hw he) rfl rfl, rfl⟩
  · rw [← hreport hs]
    exact ⟨_, takes_awaits rfl ha (suspend_suspended hw hs) rfl rfl, rfl⟩
  · exact ⟨_, takes_awaits rfl ha (suspend_inService hw he hs) rfl rfl, s.setWatch_onlyWatch hw _ _⟩
  · exact ⟨_, takes_awaits rfl ha (resume_expired hw he) rfl rfl, rfl⟩
  · rw [← hreport hs]
    exact ⟨_, takes_awaits rfl ha (resume_suspended hw hs) rfl rfl, s.setWatch_onlyWatch hw _ _⟩
  · exact ⟨_, takes_awaits rfl ha (resume_inService hw he hs) rfl rfl, rfl⟩

end Sys2Proof.Machine
end

section
/-! CHANNEL-SET: its checks in order, and the write (R134 to R136). -/

namespace Sys2Proof.Machine

section ChannelSet

variable {s : State} {ch en m p r g : Byte} {k : ChannelId} {on : Bool} {e : EdgeInput} {u : EdgeSettings}
  {edge : Option (EdgeInput × EdgeSettings)}

/-! ## The arguments -/

/-- The edge arguments of a channel that is not an EDGE channel are not read (R134). -/
theorem edgeArguments_notEdge (h : channelKind k ≠ .edge) : edgeArguments k m p r g = some none := by
  simp only [edgeArguments, edgeInputOf_none h]

theorem edgeArguments_edge (e : EdgeInput) :
    edgeArguments (edgeChannel e) m p r g = (edgeSettingsOf m p r g).map fun t => some (e, t) := by
  simp only [edgeArguments, edgeInputOf_edgeChannel]

theorem edgeArguments_bytes (e : EdgeInput) (hg : u.gate ≠ 0#8) :
    edgeArguments (edgeChannel e) (edgeModeByte u.mode) (polarityByte u.polarity) (measureRateByte u.rate) u.gate =
      some (some (e, u)) := by
  rw [edgeArguments_edge, edgeSettingsOf_bytes u hg, Option.map_some]

theorem edgeArguments_badCode (e : EdgeInput) (h : 2 < m.toNat ∨ 1 < p.toNat ∨ 3 < r.toNat ∨ g = 0#8) :
    edgeArguments (edgeChannel e) m p r g = none := by
  rw [edgeArguments_edge, edgeSettingsOf_none h, Option.map_none]

theorem exists_edgeChannel (h : k.val = 12 ∨ k.val = 13) : ∃ e, edgeChannel e = k := by
  rcases h with h | h
  · exact ⟨.edg0, Fin.ext h.symm⟩
  · exact ⟨.edg1, Fin.ext h.symm⟩

/-- CHANNEL-SET refuses an argument outside its codes (R134). -/
theorem channelSet_badCode
    (h : 14 < ch.toNat ∨ 1 < en.toNat ∨
      ((ch.toNat = 12 ∨ ch.toNat = 13) ∧ (2 < m.toNat ∨ 1 < p.toNat ∨ 3 < r.toNat ∨ g = 0#8))) :
    channelSet ch en m p r g s = (s, zeroAnswer .badArg 6) := by
  unfold channelSet
  cases hc : channelOf ch.toNat with
  | none => rfl
  | some k =>
    have hk : ch.toNat = k.val := by
      by_contra hne
      by_cases hle : ch.toNat < 15
      · rw [channelOf, dif_pos hle] at hc
        cases hc
        exact hne rfl
      · rw [channelOf_none (by omega)] at hc
        cases hc
    rcases h with h | h | ⟨hch, h⟩
    · rw [channelOf_none h] at hc
      cases hc
    · simp only [flagOf_none h]
    · obtain ⟨e, rfl⟩ := exists_edgeChannel (k := k) (by omega)
      simp only [edgeArguments_badCode e h]
      cases flagOf en.toNat <;> rfl

/-- CHANNEL-SET with its arguments within their codes goes on to its other checks (R134). -/
theorem channelSet_codes (hk : ch.toNat = k.val) (hargs : edgeArguments k m p r g = some edge) :
    channelSet ch (flagByte on) m p r g s = channelSetChecked k on edge s := by
  simp only [channelSet, channelOf_some hk, flagOf_flagByte, hargs]

/-! ## The checks on the device -/

theorem EdgeSettings.changesUnit_iff (t u : EdgeSettings) : t.changesUnit u = true ↔ t.mode ≠ u.mode ∨ t.rate ≠ u.rate := by
  simp [EdgeSettings.changesUnit]

/-- What CHANNEL-SET would take away: a channel in use that it disables, or the unit of a channel that a watch names (R135). -/
theorem State.takesAway_iff :
    s.takesAway k on edge = true ↔
      (on = false ∧ (s.Named k ∨ s.Contained k)) ∨
        ∃ e t, edge = some (e, t) ∧ s.Named k ∧
          ((s.edgeSettings.get e).mode ≠ t.mode ∨ (s.edgeSettings.get e).rate ≠ t.rate) := by
  unfold State.takesAway
  obtain _ | ⟨e, t⟩ := edge
  · simp [State.namesChannel_iff, State.contains_iff]
  · simp [State.namesChannel_iff, State.contains_iff, EdgeSettings.changesUnit_iff, and_comm, ← and_assoc]

theorem channelSetChecked_wrongMode (h : s.mode ≠ .config) : channelSetChecked k on edge s = (s, zeroAnswer .wrongMode 6) :=
  if_pos h

theorem channelSetChecked_inUse (h : s.mode = .config) (hu : s.takesAway k on edge = true) :
    channelSetChecked k on edge s = (s, zeroAnswer .inUse 6) := by
  rw [channelSetChecked, if_neg (not_not.mpr h), if_pos hu]

theorem channelSetChecked_accepts (h : s.mode = .config) (hu : ¬ s.takesAway k on edge = true) :
    channelSetChecked k on edge s =
      (s.configure k on edge, { outcome := .ok, data := (s.configure k on edge).channelBytes k }) := by
  rw [channelSetChecked, if_neg (not_not.mpr h), if_neg hu]

/-! ## The write -/

theorem State.configure_rest (s : State) (k : ChannelId) (on : Bool) (edge : Option (EdgeInput × EdgeSettings)) :
    { s.configure k on edge with channels := s.channels, edgeSettings := s.edgeSettings } = s := by
  obtain _ | ⟨e, t⟩ := edge <;> rfl

theorem State.configure_other (s : State) (on : Bool) (edge : Option (EdgeInput × EdgeSettings)) {d : ChannelId} (h : d ≠ k) :
    (s.configure k on edge).channels[d] = s.channels[d] := by
  obtain ⟨_, hch⟩ := s.configure_channels k on edge
  exact (hch d).trans (if_neg h)

theorem State.configure_plainEntry (s : State) (k : ChannelId) (on : Bool) :
    (s.configure k on none).channels[k] = { s.channels[k] with enabled := on } :=
  (s.channels_setEntry k k _).trans (if_pos rfl)

/-- The entry of an EDGE channel: a change of unit drops the latest sample (R136). -/
theorem State.configure_edgeEntry (s : State) (k : ChannelId) (on : Bool) (e : EdgeInput) (u : EdgeSettings) :
    (s.configure k on (some (e, u))).channels[k] =
      if (s.edgeSettings.get e).mode = u.mode ∧ (s.edgeSettings.get e).rate = u.rate then { s.channels[k] with enabled := on }
      else { s.channels[k] with enabled := on, latest := 0#16, fresh := false, faultMark := false } := by
  refine ((s.channels_setEntry k k _).trans (if_pos rfl)).trans ?_
  unfold ChannelEntry.configured
  by_cases hu : (s.edgeSettings.get e).changesUnit u = true
  · rw [if_pos hu, if_neg (not_and_or.mpr ((EdgeSettings.changesUnit_iff _ _).mp hu))]
  · rw [if_neg hu, if_pos (by simpa [EdgeSettings.changesUnit_iff] using hu)]

theorem State.configure_edgeSettings (s : State) (k : ChannelId) (on : Bool) (e f : EdgeInput) (u : EdgeSettings) :
    (s.configure k on (some (e, u))).edgeSettings.get f = if f = e then u else s.edgeSettings.get f :=
  PerEdge.get_set _ _ _ _

theorem State.configure_enabled (s : State) (k : ChannelId) (on : Bool) (edge : Option (EdgeInput × EdgeSettings)) :
    (s.configure k on edge).channels[k].enabled = on := by
  obtain ⟨_, hch⟩ := s.configure_channels k on edge
  rw [hch, if_pos rfl]
  exact ChannelEntry.configured_enabled _

/-- The bytes that report a written channel of another kind than EDGE (R136, R137). -/
theorem State.configure_plainBytes (h : channelKind k ≠ .edge) :
    (s.configure k on none).channelBytes k =
      [channelKindByte (channelKind k), flagByte on, 0#8, 0#8, 0#8, 0#8] := by
  rw [State.channelBytes_notEdge h, State.configure_enabled]

/-- The bytes that report a written EDGE channel (R136, R137). -/
theorem State.configure_edgeBytes :
    (s.configure (edgeChannel e) on (some (e, u))).channelBytes (edgeChannel e) =
      [1#8, flagByte on, edgeModeByte u.mode, polarityByte u.polarity, measureRateByte u.rate, u.gate] := by
  rw [State.channelBytes_edge, State.configure_enabled, State.configure_edgeSettings, if_pos rfl]

end ChannelSet

/-- Settles O47: the checks in their order (`channelSet_badCode`, `channelSetChecked_wrongMode`, `channelSetChecked_inUse` with
`State.takesAway_iff`), then the write (the `State.configure_` lemmas). -/
theorem channelSetChecksAndWrites : Obligations.ChannelSetChecksAndWrites := by
  unfold Obligations.ChannelSetChecksAndWrites
  intro s ch en m p r g c ha
  refine ⟨fun hbad => ⟨_, takes_awaits rfl ha (channelSet_badCode hbad) rfl rfl, rfl⟩, ?_⟩
  intro k on edge hk hen hedge inUse
  subst hen
  have hargs : edgeArguments k m p r g = some edge := by
    obtain ⟨rfl, hkind⟩ | ⟨e, t, rfl, rfl, rfl, rfl, rfl, rfl, hg⟩ := hedge
    · exact edgeArguments_notEdge hkind
    · exact edgeArguments_bytes e hg
  have hact : requestAct c s = channelSetChecked k on edge s := channelSet_codes hk hargs
  refine ⟨fun hmode => ?_, fun hmode hin => ?_, fun hmode hin => ?_⟩
  · exact ⟨_, takes_awaits rfl ha (hact.trans (channelSetChecked_wrongMode hmode)) rfl rfl, rfl⟩
  · exact ⟨_, takes_awaits rfl ha (hact.trans (channelSetChecked_inUse hmode (State.takesAway_iff.mpr hin))) rfl rfl, rfl⟩
  · have haccepts := hact.trans (channelSetChecked_accepts hmode (mt State.takesAway_iff.mp hin))
    obtain ⟨rfl, hkind⟩ | ⟨e, t, rfl, rfl, rfl, rfl, rfl, rfl, hg⟩ := hedge
    · refine ⟨_, _, takes_awaits rfl ha haccepts rfl rfl, s.configure_rest k on none,
        fun d hd => s.configure_other on none hd, fun _ => ⟨State.configure_plainBytes hkind, s.configure_plainEntry k on, rfl⟩,
        nofun⟩
    · refine ⟨_, _, takes_awaits rfl ha haccepts rfl rfl, s.configure_rest _ on _,
        fun d hd => s.configure_other on _ hd, nofun, fun e' u' heq => ?_⟩
      cases heq
      exact ⟨State.configure_edgeBytes, (s.configure_edgeSettings (edgeChannel e) on e e t).trans (if_pos rfl),
        fun f hf => (s.configure_edgeSettings (edgeChannel e) on e f t).trans (if_neg hf), s.configure_edgeEntry _ on e t⟩

end Sys2Proof.Machine
end

section
/-! The sweep engine and the reference: the conversion cycle, START and STOP, REF-ON and REF-OFF, and the events at the engine (R145,
R150 to R160). -/

namespace Sys2Proof.Machine

/-! ## The conversion cycle -/

section Cycle

variable {p : SweepPlan}

theorem channelsOf_sorted (set : BitVec 15) : (channelsOf set).Pairwise (· < ·) := (List.pairwise_lt_finRange 15).filter _

theorem SweepPlan.cycle_one (h : p.mode = .one) : p.cycle = [p.single] := by
  simp only [SweepPlan.cycle, h]

theorem SweepPlan.cycle_members (h : p.mode = .pass ∨ p.mode = .loop) : p.cycle = channelsOf p.members := by
  rcases h with h | h <;> simp only [SweepPlan.cycle, h]

theorem SweepPlan.cycle_priorityLoop (h : p.mode = .priorityLoop) :
    p.cycle = ((channelsOf p.members).map fun m => channelsOf p.priorities ++ [m]).flatten := by
  simp only [SweepPlan.cycle, h, List.flatMap_def]

theorem SweepPlan.length_priorityLoop (h : p.mode = .priorityLoop) :
    p.cycle.length = ((channelsOf p.priorities).length + 1) * (channelsOf p.members).length := by
  rw [SweepPlan.cycle_priorityLoop h, List.length_flatten, List.map_map]
  have hconst : (List.length ∘ fun m => channelsOf p.priorities ++ [m]) = fun _ => (channelsOf p.priorities).length + 1 :=
    funext fun _ => List.length_append
  rw [hconst, List.map_const', List.sum_replicate, smul_eq_mul, Nat.mul_comm]

end Cycle

/-- Settles O49, mode by mode. -/
theorem conversionCycleOfEachMode : Obligations.ConversionCycleOfEachMode := by
  unfold Obligations.ConversionCycleOfEachMode
  refine fun p => ⟨SweepPlan.cycle_one, fun h => ?_,
    fun h => ⟨SweepPlan.length_priorityLoop h, _, SweepPlan.cycle_priorityLoop h, rfl⟩⟩
  rw [SweepPlan.cycle_members h]
  exact ⟨channelsOf_sorted _, mem_channelsOf _⟩

/-! ## START and STOP -/

section StartStop

variable {s : State}

theorem start_wrongMode (hm : s.mode ≠ .run) : start s = (s, zeroAnswer .wrongMode 1) := if_pos hm

theorem start_busy (hm : s.mode = .run) (h : s.requested ≠ none ∨ s.engine ≠ .idle) :
    start s = (s, zeroAnswer .busy 1) := by
  rw [start, if_neg (not_not.mpr hm)]
  by_cases hr : s.requested.isSome = true
  · exact if_pos hr
  · rw [if_neg hr, if_pos (h.resolve_left (by simpa using hr))]

/-- START in RUN with the engine IDLE and no change pending goes on to the plan and the reference (R153). -/
theorem start_checksPlan (hm : s.mode = .run) (hr : s.requested = none) (he : s.engine = .idle) :
    start s =
      if !s.plan.accepted then (s, zeroAnswer .empty 1)
      else if s.reference = .off then (s, zeroAnswer .noRef 1)
      else ({ s with engine := s.startState, position := 0 }, { outcome := .ok, data := [engineByte s.startState] }) := by
  rw [start, if_neg (not_not.mpr hm), if_neg (by simp [hr]), if_neg (not_not.mpr he)]

theorem State.startState_eq (s : State) :
    s.startState =
      if s.plan.trigger = .pin then .armed else if s.reference = .ready then .converting else .waitRef := by
  unfold State.startState
  cases s.plan.trigger <;> rfl

theorem stop_busy (hr : s.requested ≠ none) : stop s = (s, zeroAnswer .busy 1) :=
  if_pos (Option.isSome_iff_ne_none.mpr hr)

theorem stop_stops (hr : s.requested = none) :
    stop s = ({ s with engine := .idle, position := 0 }, { outcome := .ok, data := [engineByte s.engine] }) :=
  if_neg (by simp [hr])

end StartStop

/-- Settles O51, by START's checks in their order (`start_wrongMode`, `start_busy`, `start_checksPlan`), the state it begins in
(`State.startState_eq`), and the two answers of STOP. -/
theorem startAndStopMoveEngine : Obligations.StartAndStopMoveEngine := by
  unfold Obligations.StartAndStopMoveEngine
  refine ⟨fun s ha => ⟨fun hm => ?_, fun hm hbusy => ?_, fun hm hr he => ?_⟩, fun s ha => ⟨fun hr => ?_, fun hr => ?_⟩⟩
  · exact ⟨_, takes_awaits rfl ha (start_wrongMode hm) rfl rfl, rfl⟩
  · exact ⟨_, takes_awaits rfl ha (start_busy hm hbusy) rfl rfl, rfl⟩
  · have hact : requestAct .start s = _ := start_checksPlan hm hr he
    refine ⟨fun hplan => ?_, fun hplan href => ?_, fun hplan href => ?_⟩
    · rw [if_pos (by simp [hplan])] at hact
      exact ⟨_, takes_awaits rfl ha hact rfl rfl, rfl⟩
    · rw [if_neg (by simp [hplan]), if_pos href] at hact
      exact ⟨_, takes_awaits rfl ha hact rfl rfl, rfl⟩
    · rw [if_neg (by simp [hplan]), if_neg href] at hact
      exact ⟨_, _, s.startState_eq, takes_awaits rfl ha hact rfl rfl, rfl⟩
  · exact ⟨_, takes_awaits rfl ha (stop_busy hr) rfl rfl, rfl⟩
  · exact ⟨_, takes_awaits rfl ha (stop_stops hr) rfl rfl, rfl⟩

/-! ## REF-ON and REF-OFF -/

section Reference

variable {s : State}

theorem refOn_off (h : s.reference = .off) :
    refOn s = ({ s with reference := .settling }, { outcome := .ok, data := [1#8] }) := by
  have hon : switchedOn s.reference = .settling := by rw [h]; rfl
  rw [refOn, hon]
  rfl

theorem refOn_on (h : s.reference ≠ .off) :
    refOn s = (s, { outcome := .ok, data := [referenceByte s.reference] }) := by
  rw [refOn, switchedOn_of_ne_off h]

theorem refOff_idle (h : s.engine = .idle) :
    refOff s = ({ s with reference := .off }, { outcome := .ok, data := [0#8] }) := if_pos h

theorem refOff_busy (h : s.engine ≠ .idle) : refOff s = (s, zeroAnswer .busy 1) := if_neg h

end Reference

/-- Settles O52, by the two answers of each request. -/
theorem referenceRequestsSwitch : Obligations.ReferenceRequestsSwitch := by
  unfold Obligations.ReferenceRequestsSwitch
  refine fun s => ⟨fun ha => ⟨fun h => ?_, fun h => ?_⟩, fun ha => ⟨fun h => ?_, fun h => ?_⟩⟩
  · exact ⟨_, takes_awaits rfl ha (refOn_off h) rfl rfl, rfl⟩
  · exact ⟨_, takes_awaits rfl ha (refOn_on h) rfl rfl, rfl⟩
  · exact ⟨_, takes_awaits rfl ha (refOff_idle h) rfl rfl, rfl⟩
  · exact ⟨_, takes_awaits rfl ha (refOff_busy h) rfl rfl, rfl⟩

/-! ## The settle event and TRIG -/

/-- A falling edge on TRIG begins an ARMED run (R154). -/
theorem trigFallingEdge_armed {s : State} (hh : s.held = false) (he : s.engine = .armed) :
    exec .trigFallingEdge s = .next { s with engine := s.runState, position := 0 } :=
  (if_neg (by simp [hh])).trans (if_pos he)

/-- Settles O53, along the branches of the two events. -/
theorem settleAndTriggerStartRuns : Obligations.SettleAndTriggerStartRuns := by
  unfold Obligations.SettleAndTriggerStartRuns
  refine ⟨fun s => ⟨fun hr he => ?_, fun hr he => ?_, fun hr => ?_⟩,
    fun s hh => ⟨fun he hr => ?_, fun he hr => ?_, fun he => ?_⟩, fun s hh => ?_⟩
  · exact (if_pos hr).trans (if_pos he)
  · exact (if_pos hr).trans (if_neg he)
  · exact if_neg hr
  · rw [trigFallingEdge_armed hh he, State.runState, if_pos hr]
  · rw [trigFallingEdge_armed hh he, State.runState, if_neg (by simp [hr])]
  · exact (if_neg (by simp [hh])).trans (if_neg he)
  · exact if_pos hh

/-! ## The completion of a conversion -/

section Completion

variable {s : State} {r : BitVec 12} {c : ChannelId} {v : Word}

theorem deliveredValue_eq {q : Resolution} (h : v.toNat = if q = .fast then 4 * (r.toNat % 1024) else r.toNat) :
    deliveredValue q r = v :=
  BitVec.eq_of_toNat_eq ((deliveredValue_toNat q r).trans h.symm)

theorem conversionCompletion_idle (he : s.engine ≠ .converting) : exec (.conversionCompletion r) s = .next s := if_neg he

/-- A completion on a channel of the cycle: the arrival and the engine's step, unless the value is one that the device does not sample
(R158, R200). -/
theorem conversionCompletion_eq (he : s.engine = .converting) (hc : s.plan.cycle[s.position]? = some c)
    (hv : deliveredValue s.plan.resolution r = v) :
    exec (.conversionCompletion r) s =
      if sampleable c v then .next { s.arrival c v false with engine := s.engineNext.1, position := s.engineNext.2 }
      else .next s := by
  subst hv
  rw [show exec (.conversionCompletion r) s = execConversionCompletion r s from rfl]
  simp only [execConversionCompletion, if_pos he, hc]

theorem State.engineNext_pending (h : s.requested ≠ none) : s.engineNext = (.idle, 0) :=
  if_pos (Option.isSome_iff_ne_none.mpr h)

theorem State.engineNext_step (h : s.requested = none) (hp : s.position + 1 < s.plan.cycle.length) :
    s.engineNext = (.converting, s.position + 1) := by
  rw [State.engineNext, if_neg (by simp [h]), if_pos hp]

/-- The end of the cycle: LOOP and PRIORITY LOOP begin again, ONE and PASS rest (R158). -/
theorem State.engineNext_end (h : s.requested = none) (hp : s.position + 1 = s.plan.cycle.length) :
    s.engineNext =
      (if s.plan.mode = .loop ∨ s.plan.mode = .priorityLoop then .converting
        else if s.plan.trigger = .pin then .armed else .idle, 0) := by
  have hrest : s.plan.rest = if s.plan.trigger = .pin then .armed else .idle := by
    unfold SweepPlan.rest
    cases s.plan.trigger <;> rfl
  rw [State.engineNext, if_neg (by simp [h]), if_neg (by omega), ← hrest]
  cases s.plan.mode <;> rfl

/-- No value that the device samples of its supply meets an entry condition outside the working range (R200). -/
theorem Watch.entryTest_supply {w : Watch} (hlow : 1350 ≤ v.toNat) (hhigh : v.toNat ≤ 2750)
    (h : (w.settings.kind = .below ∧ w.settings.levelA.toNat < 1350) ∨ (w.settings.kind = .above ∧ 2750 < w.settings.levelA.toNat)) :
    w.entryTest v = false := by
  obtain ⟨hk, hlevel⟩ | ⟨hk, hlevel⟩ := h
  · rw [Bool.eq_false_iff, ne_eq, (Watch.tests_below v hk).1]
    omega
  · rw [Bool.eq_false_iff, ne_eq, (Watch.tests_above v hk).1]
    omega

end Completion

/-- Settles O54, by the two outcomes of a completion (`conversionCompletion_eq`, `sampleable_iff`), the arrival
(`State.arrival_arrives`) and the engine's step (the `State.engineNext_` lemmas). -/
theorem completionHandsArrival : Obligations.CompletionHandsArrival := by
  unfold Obligations.CompletionHandsArrival
  refine ⟨fun s r c v he hc hv => ⟨fun h14 hout => ?_, fun hsample => ?_⟩, fun s r => conversionCompletion_idle,
    fun w v => Watch.entryTest_supply⟩
  · rw [conversionCompletion_eq he hc (deliveredValue_eq hv), if_neg]
    rw [sampleable_iff]
    intro hin
    have := hin h14
    omega
  · have hexec := conversionCompletion_eq he hc (deliveredValue_eq hv)
    rw [if_pos ((sampleable_iff c v).mpr hsample)] at hexec
    have harrives := s.arrival_arrives c v false
    refine ⟨_, hexec, ⟨harrives.entry, harrives.otherEntries, ?_⟩, rfl, rfl, fun hr => ?_, fun hr hp => ?_, fun hr hp => ?_⟩
    · exact ⟨harrives.table.generations, harrives.table.watches, harrives.table.joined, harrives.table.claim⟩
    · simp only [State.engineNext_pending hr, and_self]
    · simp only [State.engineNext_step hr hp, and_self]
    · simp only [State.engineNext_end hr hp, and_self]

end Sys2Proof.Machine
end

section
/-! The events of the edge timing unit, case by case (R164 to R172). -/

namespace Sys2Proof.Machine

/-! ## Edges and range ends that hand no sample -/

section WithoutSample

variable {s : State} {e : EdgeInput} {n : Nat} {m : EdgeMode}

/-- An active edge starts a WIDTH or PERIOD measurement in WAITING (R166, R168). -/
theorem State.activeEdge_starts (hs : (s.edges.get e).state = .waiting) (hm : (s.edgeSettings.get e).mode ≠ .count) :
    s.activeEdge e n = s.setEdge e (s.edges.get e).startCount := by
  simp only [State.activeEdge, hs]
  cases hmode : (s.edgeSettings.get e).mode with
  | width => rfl
  | period => rfl
  | count => exact absurd hmode hm

/-- An active edge is counted in a COUNT window (R171). -/
theorem State.activeEdge_counts (hs : (s.edges.get e).state = .measuring) (hm : (s.edgeSettings.get e).mode = .count) :
    s.activeEdge e n = s.setEdge e (s.edges.get e).countEdge := by
  simp only [State.activeEdge, hs, hm]

theorem EdgeRecord.countEdge_eq (r : EdgeRecord) :
    r.countEdge = { r with count := BitVec.ofNat 16 (min (r.count.toNat + 1) 65535) } := by
  unfold EdgeRecord.countEdge
  congr 1
  have hlt := r.count.isLt
  by_cases hc : r.count = 65535#16
  · rw [if_pos hc, hc]
    rfl
  · rw [if_neg hc, Nat.min_eq_left (by bv_omega)]
    bv_omega

theorem State.activeEdge_ignored
    (h : (s.edges.get e).state = .idle ∨ ((s.edges.get e).state = .waiting ∧ (s.edgeSettings.get e).mode = .count) ∨
      ((s.edges.get e).state = .measuring ∧ (s.edgeSettings.get e).mode = .width)) : s.activeEdge e n = s := by
  obtain hs | ⟨hs, hm⟩ | ⟨hs, hm⟩ := h
  · simp only [State.activeEdge, hs]
  · simp only [State.activeEdge, hs, hm]
  · simp only [State.activeEdge, hs, hm]

theorem State.oppositeEdge_ignored (h : (s.edges.get e).state ≠ .measuring ∨ (s.edgeSettings.get e).mode ≠ .width) :
    s.oppositeEdge e n = s :=
  if_neg fun hin => h.elim (absurd hin.2) (absurd hin.1)

theorem State.rangeEnd_ignored (h : (s.edges.get e).state ≠ .measuring ∨ (s.edgeSettings.get e).mode ≠ m) :
    s.rangeEnd m e = s :=
  if_neg fun hin => h.elim (absurd hin.2) (absurd hin.1)

end WithoutSample

/-- Settles O55, by the equations of the active edge (`State.activeEdge_starts`, `State.activeEdge_counts`, `State.activeEdge_ignored`),
of the opposite edge (`State.oppositeEdge_ignored`) and of the range end (`State.rangeEnd_ignored`). -/
theorem edgesWithoutSample : Obligations.EdgesWithoutSample := by
  unfold Obligations.EdgesWithoutSample
  intro s e n r m
  refine ⟨fun hs hm => ?_, fun hs hm => ?_, fun h => ?_, fun h => ⟨?_, ?_⟩, fun h => ?_⟩
  · exact congrArg Host.Outcome.next (State.activeEdge_starts hs hm)
  · have hcounts : s.activeEdge e n = s.setEdge e { r with count := BitVec.ofNat 16 (min (r.count.toNat + 1) 65535) } := by
      rw [State.activeEdge_counts hs hm, EdgeRecord.countEdge_eq]
    exact congrArg Host.Outcome.next hcounts
  · exact congrArg Host.Outcome.next (State.activeEdge_ignored h)
  · exact congrArg Host.Outcome.next (State.oppositeEdge_ignored h)
  · exact congrArg Host.Outcome.next (State.rangeEnd_ignored h)
  · exact congrArg Host.Outcome.next (State.rangeEnd_ignored h)

/-! ## Edges, range ends and windows that hand a sample -/

section Hands

variable {s t : State} {e : EdgeInput} {n : Nat} {v : Word} {faulted : Bool} {r q : EdgeRecord} {m : EdgeMode}

/-- One sample of edge input `e` arrives, its record becomes `r`, and nothing else changes. -/
structure HandsSample (e : EdgeInput) (v : Word) (faulted : Bool) (r : EdgeRecord) (s t : State) : Prop where
  arrives : Arrives (edgeChannel e) v faulted s t
  edges : t.edges = s.edges.set r e
  rest : { t with slots := s.slots, joined := s.joined, channels := s.channels, port := s.port, edges := s.edges } = s
  port : t.port = { s.port with claim := t.port.claim }

theorem State.setEdge_arrival_hands (s : State) (e : EdgeInput) (r : EdgeRecord) (v : Word) (faulted : Bool) :
    HandsSample e v faulted r s ((s.setEdge e r).arrival (edgeChannel e) v faulted) where
  arrives := by
    have h := (s.setEdge e r).arrival_arrives (edgeChannel e) v faulted
    exact ⟨h.entry, h.otherEntries, ⟨h.table.generations, h.table.watches, h.table.joined, h.table.claim⟩⟩
  edges := rfl
  rest := rfl
  port := rfl

theorem PerEdge.set_set {α : Type} (p : PerEdge α) (x y : α) (e : EdgeInput) : (p.set x e).set y e = p.set y e := by
  cases e <;> rfl

/-- The record of the input may be written again after the sample. -/
theorem HandsSample.setEdge (h : HandsSample e v faulted r s t) (q : EdgeRecord) :
    HandsSample e v faulted q s (t.setEdge e q) where
  arrives :=
    ⟨h.arrives.entry, h.arrives.otherEntries,
      ⟨h.arrives.table.generations, h.arrives.table.watches, h.arrives.table.joined, h.arrives.table.claim⟩⟩
  edges := by
    rw [← PerEdge.set_set s.edges r q e, ← h.edges]
    rfl
  rest := h.rest
  port := h.port

theorem HandsSample.startMeasurement (h : HandsSample e v faulted r s t) :
    HandsSample e v faulted r.startCount s (t.startMeasurement e) := by
  have hget : t.edges.get e = r := by
    rw [h.edges, PerEdge.get_set, if_pos rfl]
  rw [State.startMeasurement, hget]
  exact h.setEdge _

/-- A range end in its measurement (R165, R167, R169). -/
theorem State.rangeEnd_hands (hs : (s.edges.get e).state = .measuring) (hm : (s.edgeSettings.get e).mode = m) :
    HandsSample e Config.faultedValue true (s.edges.get e).waitAgain s (s.rangeEnd m e) := by
  have heq : s.rangeEnd m e = _ := if_pos ⟨hm, hs⟩
  rw [heq]
  exact s.setEdge_arrival_hands e _ _ _

/-- An opposite edge within the range ends a WIDTH measurement (R166). -/
theorem State.oppositeEdge_hands (hs : (s.edges.get e).state = .measuring) (hm : (s.edgeSettings.get e).mode = .width)
    (hn : ¬ rangeRanOut (s.edgeSettings.get e).rate n = true) :
    HandsSample e (measuredCount (s.edgeSettings.get e).rate n) false (s.edges.get e).waitAgain s (s.oppositeEdge e n) := by
  have heq : s.oppositeEdge e n = _ := (if_pos ⟨hm, hs⟩).trans (if_neg hn)
  rw [heq]
  exact s.setEdge_arrival_hands e _ _ _

/-- An opposite edge after the end of the range finds the overflow done (R167). -/
theorem State.oppositeEdge_late (hs : (s.edges.get e).state = .measuring) (hm : (s.edgeSettings.get e).mode = .width)
    (hn : rangeRanOut (s.edgeSettings.get e).rate n = true) : s.oppositeEdge e n = s.rangeEnd .width e :=
  (if_pos ⟨hm, hs⟩).trans (if_pos hn)

/-- An active edge within the range ends a PERIOD measurement and starts the next (R168). -/
theorem State.activeEdge_hands (hs : (s.edges.get e).state = .measuring) (hm : (s.edgeSettings.get e).mode = .period)
    (hn : ¬ rangeRanOut (s.edgeSettings.get e).rate n = true) :
    HandsSample e (measuredCount (s.edgeSettings.get e).rate n) false (s.edges.get e).startCount s (s.activeEdge e n) := by
  simp only [State.activeEdge, hs, hm, if_neg hn]
  exact s.setEdge_arrival_hands e _ _ _

/-- An active edge after the end of the range finds the stall done, and starts a measurement (R169). -/
theorem State.activeEdge_late (hs : (s.edges.get e).state = .measuring) (hm : (s.edgeSettings.get e).mode = .period)
    (hn : rangeRanOut (s.edgeSettings.get e).rate n = true) :
    s.activeEdge e n = (s.rangeEnd .period e).startMeasurement e := by
  simp only [State.activeEdge, hs, hm, if_pos hn]

/-- The sample of an ended window (R172). -/
theorem State.deliverWindow_hands (h : (s.edges.get e).windowDue = some v) :
    HandsSample e v false { s.edges.get e with windowDue := none } s (s.deliverWindow e) := by
  simp only [State.deliverWindow, h]
  exact s.setEdge_arrival_hands e _ _ _

end Hands

/-- Settles O56, event by event; the value is a faulted sample's or the measured count (`measuredCount_toNat`), and `rangeRanOut_iff`
says when an edge comes late. -/
theorem edgesHandSamples : Obligations.EdgesHandSamples := by
  unfold Obligations.EdgesHandSamples
  refine ⟨?_, fun s e => ⟨fun v hdue => ?_, fun hdue => ?_⟩⟩
  · intro s e n c v faulted after r q period hs hcase hv
    have hlate : rangeRanOut q.rate n = true ↔ 65536 * period < n := rangeRanOut_iff q.rate n
    have hfaulted : faulted = true → Config.faultedValue = v := fun hf =>
      BitVec.eq_of_toNat_eq (hv.trans (if_pos hf)).symm
    have hgood : faulted = false → measuredCount q.rate n = v := fun hf =>
      BitVec.eq_of_toNat_eq ((measuredCount_toNat q.rate n).trans (hv.trans (if_neg (by simp [hf]))).symm)
    suffices hhands : ∃ t, exec c s = .next t ∧ HandsSample e v faulted { r with state := after, count := 0#16 } s t by
      obtain ⟨t, hnext, hh⟩ := hhands
      exact ⟨t, hnext, hh.arrives, hh.edges, hh.rest, hh.port⟩
    obtain ⟨rfl, hm, hn, rfl, rfl⟩ | ⟨rfl, hm, hn, rfl, rfl⟩ | ⟨rfl, hm, hn, rfl, rfl⟩ | ⟨rfl, hm, hn, rfl, rfl⟩ |
      ⟨rfl, hm, rfl, rfl⟩ | ⟨rfl, hm, rfl, rfl⟩ := hcase
    · rw [← hgood rfl]
      exact ⟨_, rfl, State.oppositeEdge_hands hs hm (mt hlate.mp (by omega))⟩
    · rw [← hgood rfl]
      exact ⟨_, rfl, State.activeEdge_hands hs hm (mt hlate.mp (by omega))⟩
    · rw [← hfaulted rfl]
      exact ⟨_, congrArg Host.Outcome.next (State.oppositeEdge_late hs hm (hlate.mpr hn)), State.rangeEnd_hands hs hm⟩
    · rw [← hfaulted rfl]
      exact ⟨_, congrArg Host.Outcome.next (State.activeEdge_late hs hm (hlate.mpr hn)), (State.rangeEnd_hands hs hm).startMeasurement⟩
    · rw [← hfaulted rfl]
      exact ⟨_, rfl, State.rangeEnd_hands hs hm⟩
    · rw [← hfaulted rfl]
      exact ⟨_, rfl, State.rangeEnd_hands hs hm⟩
  · have hh := State.deliverWindow_hands hdue
    exact ⟨_, rfl, hh.arrives, hh.edges, hh.rest, hh.port⟩
  · have hnone : s.deliverWindow e = s := by simp only [State.deliverWindow, hdue]
    exact congrArg Host.Outcome.next hnone

end Sys2Proof.Machine
end

section
/-! MODE-REQUEST, a pending change carried out, and device reset (R177 to R185), and what holds after reset. -/

namespace Sys2Proof.Machine

/-! ## Changes of mode -/

section ModeChange

variable {s : State} {b : Byte} {m : Mode}

theorem modeOf_none {n : Nat} (h : 2 < n) : modeOf n = none := by
  unfold modeOf
  split
  · omega
  · omega
  · omega
  · rfl

theorem exists_modeByte (h : b.toNat ≤ 2) : ∃ m, b = modeByte m := by
  obtain h0 | h1 | h2 : b.toNat = 0 ∨ b.toNat = 1 ∨ b.toNat = 2 := by omega
  · exact ⟨.config, BitVec.eq_of_toNat_eq h0⟩
  · exact ⟨.run, BitVec.eq_of_toNat_eq h1⟩
  · exact ⟨.hold, BitVec.eq_of_toNat_eq h2⟩

theorem modeRequest_badArg (h : 2 < b.toNat) : modeRequest b s = (s, zeroAnswer .badArg 2) := by
  simp only [modeRequest, modeOf_none h]

theorem modeRequest_busy (h : b.toNat ≤ 2) (hr : s.requested ≠ none) : modeRequest b s = (s, zeroAnswer .busy 2) := by
  obtain ⟨m, rfl⟩ := exists_modeByte h
  simp only [modeRequest, modeOf_modeByte]
  exact if_pos (Option.isSome_iff_ne_none.mpr hr)

theorem modeRequest_current (hr : s.requested = none) (hm : m = s.mode) :
    modeRequest (modeByte m) s = (s, { outcome := .ok, data := [modeByte m, 3#8] }) := by
  subst hm
  simp only [modeRequest, modeOf_modeByte, hr, State.modeBytes, requestedByte]
  rfl

theorem modeRequest_other (hr : s.requested = none) (hm : m ≠ s.mode) :
    modeRequest (modeByte m) s = changeMode m s := by
  simp only [modeRequest, modeOf_modeByte]
  rw [if_neg (by simp [hr]), if_neg hm]

/-- A change that is carried out at once reports the new mode and no change pending (R179 to R181). -/
theorem modeRequest_enters (hr : s.requested = none) (hm : m ≠ s.mode) (h : s.mode ≠ .run ∨ s.engine ≠ .converting) :
    modeRequest (modeByte m) s = (s.enterMode m, { outcome := .ok, data := [modeByte m, 3#8] }) := by
  rw [modeRequest_other hr hm, changeMode_enters (not_and_or.mpr h)]
  rfl

theorem exists_pendingTarget (h : m ≠ .run) : ∃ p : PendingTarget, p.toMode = m := by
  cases m with
  | config => exact ⟨.config, rfl⟩
  | run => exact absurd rfl h
  | hold => exact ⟨.hold, rfl⟩

/-- A change that waits for the conversion in flight (R182). -/
theorem modeRequest_waits {p : PendingTarget} (hr : s.requested = none) (hm : p.toMode ≠ s.mode) (hrun : s.mode = .run)
    (he : s.engine = .converting) :
    modeRequest (modeByte p.toMode) s =
      ({ s with requested := some p }, { outcome := .accepted, data := [1#8, modeByte p.toMode] }) := by
  rw [modeRequest_other hr hm, changeMode_waits ⟨hrun, he⟩, State.modeBytes, hrun]
  cases p <;> rfl

theorem State.deliverWindows_cursor (s : State) : s.deliverWindows.port.cursor = s.port.cursor := by
  rw [(Measured.deliverWindows s).events.portKept.frame]

/-- A change of mode delivers the window samples still due, then enters the mode (R180, R181, R183; log 9). -/
theorem State.enterMode_deliverWindows (s : State) (m : Mode) : s.deliverWindows.enterMode m = s.enterMode m := by
  rw [State.enterMode_eq, State.enterMode_eq, State.deliverWindows_none s.deliverWindows_due]

theorem State.enterMode_enteredAfterWindows (s : State) (m : Mode) : ModeEntered m s.deliverWindows (s.enterMode m) := by
  rw [← State.enterMode_deliverWindows]
  exact State.enterMode_entered s.deliverWindows_due m

end ModeChange

/-- Settles O57, by the checks of MODE-REQUEST in their order and what entering a mode makes of the device
(`State.enterMode_enteredAfterWindows`). -/
theorem modeRequestDecides : Obligations.ModeRequestDecides := by
  unfold Obligations.ModeRequestDecides
  intro s b ha
  refine ⟨fun hbad => ?_, fun hb hr => ?_, fun m hb hr => ?_⟩
  · exact ⟨_, takes_awaits rfl ha (modeRequest_badArg hbad) rfl rfl, rfl⟩
  · exact ⟨_, takes_awaits rfl ha (modeRequest_busy hb hr) rfl rfl, rfl⟩
  subst hb
  refine ⟨fun hm => ?_, fun hm hfree => ?_, fun hm hrun he => ?_⟩
  · exact ⟨_, takes_awaits rfl ha (modeRequest_current hr hm) rfl rfl, rfl⟩
  · have hentered := s.enterMode_enteredAfterWindows m
    refine ⟨s.deliverWindows, _, rfl, answered_awaits rfl ha (modeRequest_enters hr hm hfree), ?_, rfl, s.deliverWindows_cursor⟩
    exact ⟨hentered.mode, hentered.requested, hentered.engine, hentered.edges, hentered.timeBase, hentered.rest⟩
  · obtain ⟨p, rfl⟩ := exists_pendingTarget (hrun ▸ hm)
    exact ⟨_, p, takes_awaits rfl ha (modeRequest_waits hr hm hrun he) rfl rfl, rfl, rfl⟩

section CarriedOut

variable {s : State}

theorem modeChangeCarriedOut_pending {p : PendingTarget} (hr : s.requested = some p) (he : s.engine ≠ .converting) :
    exec .modeChangeCarriedOut s = .next (s.enterMode p.toMode) := by
  rw [show exec .modeChangeCarriedOut s = execModeChangeCarriedOut s from rfl]
  simp only [execModeChangeCarriedOut, hr, if_neg he]

theorem modeChangeCarriedOut_nothing (h : s.requested = none ∨ s.engine = .converting) :
    exec .modeChangeCarriedOut s = .next s := by
  rw [show exec .modeChangeCarriedOut s = execModeChangeCarriedOut s from rfl]
  unfold execModeChangeCarriedOut
  split
  · rfl
  · next p hp =>
    exact if_pos (h.resolve_left (by simp [hp]))

end CarriedOut

/-- Settles O58, by the two cases of the event and what entering a mode makes of the device
(`State.enterMode_enteredAfterWindows`). -/
theorem pendingModeChangeIsCarriedOut : Obligations.PendingModeChangeIsCarriedOut := by
  unfold Obligations.PendingModeChangeIsCarriedOut
  exact fun s => ⟨fun p hp he => ⟨s.deliverWindows, _, rfl, modeChangeCarriedOut_pending hp he, s.enterMode_enteredAfterWindows _⟩,
    modeChangeCarriedOut_nothing⟩

/-! ## Device reset -/

theorem Port.reset_idle {p : Port} (h : p.phase = .idle) : p.reset = State.reset.port := by
  simp only [Port.reset, h]

theorem Port.reset_held {p : Port} (h : p.phase ≠ .idle) : p.reset = { State.reset.port with phase := .held, miso := .zero } := by
  unfold Port.reset
  split
  · next hp => exact absurd hp h
  · rfl

/-- Settles O60, cause by cause. -/
theorem deviceResetSetsResetValues : Obligations.DeviceResetSetsResetValues := by
  unfold Obligations.DeviceResetSetsResetValues
  refine ⟨fun s cause => ⟨_, rfl, rfl, Port.reset_idle, Port.reset_held, ?_, ?_⟩, fun _ => rfl⟩
  · cases cause <;> rfl
  · cases cause <;> rfl

/-! ## The state after reset -/

theorem State.PortSound.reset : State.reset.PortSound :=
  ⟨fun _ => ⟨rfl, rfl⟩, nofun, nofun, nofun, nofun⟩

theorem State.HeldSound.reset : State.reset.HeldSound := fun _ => ⟨rfl, .inl rfl⟩

/-- Settles O12, invariant by invariant. -/
theorem resetMeetsInvariants : Obligations.ResetMeetsInvariants := by
  unfold Obligations.ResetMeetsInvariants
  exact ⟨.reset, .reset, .reset, .reset, .reset⟩

/-! ## Forms -/

theorem wordBytes_eq (w : Word) :
    ∃ high low, wordBytes w = [high, low] ∧ w.toNat = high.toNat * 256 + low.toNat := by
  refine ⟨_, _, rfl, ?_⟩
  have := w.isLt
  simp only [BitVec.extractLsb'_toNat]
  omega

theorem makeHandle_toNat (g : BitVec 4) (i : SlotId) : (makeHandle g i).toNat = g.toNat * 64 + i.val := by
  have := g.isLt
  have := i.isLt
  simp only [makeHandle, BitVec.toNat_ofNat]
  omega

/-- A handle is made of the slot and the generation that it names (R15). -/
theorem makeHandle_handle {h : Word} (hle : h.toNat ≤ 1023) : makeHandle (handleGeneration h) (handleSlot h) = h := by
  apply BitVec.eq_of_toNat_eq
  rw [makeHandle_toNat]
  simp only [handleGeneration, handleSlot, BitVec.toNat_ofNat]
  omega

theorem countByte_toNat {n : Nat} (h : n < 256) : (countByte n).toNat = n := Nat.mod_eq_of_lt h

/-- The kind and the maximum of each channel (R95, R130). -/
theorem channelKind_and_channelMax (c : ChannelId) :
    channelKind c = (if c = 12 ∨ c = 13 then .edge else if c = 14 then .supply else .analog) ∧
      channelMax c = (if c = 12 ∨ c = 13 then 65535 else 4095) := by
  revert c
  decide

/-- Settles O9, form by form: handles, words, codes, flag bytes (`flagBytes_bits`) and the summary byte (`summaryBits_bits`). -/
theorem fieldsAreCarriedInTheirForms : Obligations.FieldsAreCarriedInTheirForms := by
  unfold Obligations.FieldsAreCarriedInTheirForms
  refine ⟨fun g i => ⟨makeHandle_toNat g i, makeHandle_le g i, handleSlot_makeHandle g i, handleGeneration_makeHandle g i⟩,
    fun _ => makeHandle_handle, fun _ _ => rfl, wordBytes_eq, rfl, rfl, rfl, rfl, rfl, rfl, rfl, rfl, rfl, rfl, rfl, rfl, rfl, rfl,
    rfl, fun _ => countByte_toNat, channelKind_and_channelMax, rfl, rfl, flagBytes_bits, fun s => ?_⟩
  obtain ⟨hmode, hchange, hready, hbusy, hlisted, hnotify, hoverrun⟩ :=
    summaryBits_bits s.mode s.requested.isSome (s.reference == .ready) (s.engine != .idle) (!s.joined.isEmpty) s.notifyAsserted
      s.triggerOverrun
  refine ⟨hmode.trans ?_, hchange, ?_, ?_, ?_, hnotify, hoverrun⟩
  · cases s.mode <;> rfl
  · rw [State.summaryByte, hready, beq_iff_eq]
  · rw [State.summaryByte, hbusy, bne_iff_ne]
  · rw [State.summaryByte, hlisted]
    simp

end Sys2Proof.Machine
end
